-- ==== Sys2Proof/Word.lean ====
section
/-! DEFINITION. The word types of the machine (spec/00_scope.md R7, R11): bytes, 16-bit words, and the
fixed-width values that wrap modulo 2^8 and 2^16. -/

namespace Sys2Proof

/-- An 8-bit value: a register, a memory byte, an immediate (R7, R11). -/
abbrev Byte := BitVec 8

/-- A 16-bit value: a register pair, an address, a port number (R7, R11). -/
abbrev Word := BitVec 16

end Sys2Proof
end

