-- ==== Sys2Proof/Config.lean ====
section
/-! DEFINITION. The open parameters of spec/00_scope.md R8, and the free values: what the spec leaves to a draw.
A free value is an opaque constant without a body, so no proof can know what it is. -/

namespace Sys2Proof

/-- `XY_MODE` (R8, R15): what a flag-writing instruction leaves in the undocumented bits Y and X of F. -/
inductive XYMode where
  /-- each bit is a free draw -/
  | draw
  /-- both bits keep their value -/
  | preserve
  /-- both bits come from the source each rule names (93_implementation_defined.md, section 2) -/
  | silicon
deriving DecidableEq, Repr

/-- What `CYCLE_TABLE` prices (R8, 92_eei_decisions.md D14). -/
inductive CostKey where
  /-- a form: a row of spec/opcode_table.json (R18), numbered from 0 in the table's order -/
  | form (row : Nat)
  /-- an NMI acceptance -/
  | nmi
  /-- a maskable acceptance in mode 0 or 1 -/
  | mode01
  /-- a maskable acceptance in mode 2 -/
  | mode2
  /-- a halted step that accepts no interrupt -/
  | haltedStep
deriving DecidableEq, Repr

/-- `CYCLE_TABLE` (R8, D14): what costs other than the default, each with its cost when the condition holds and its cost otherwise; a
fixed cost has one number twice (log entry 6). -/
abbrev CycleTable := List (CostKey × Nat × Nat)

/-- The parameters of R8 that a run fixes; `IoRead` is `Config.ioRead` below. -/
structure Params where
  /-- `XY_MODE` (D2) -/
  xyMode : XYMode
  /-- `EI_DELAY` (D7) -/
  eiDelay : Bool
  /-- `DEVICE_VECTOR` (D16) -/
  deviceVector : Byte
  /-- `MEM_FAULT` (D18) -/
  memFault : Bool
  /-- `CYCLE_TABLE` (D14), by what differs from the default of 70_reset_and_hazards.md R481 -/
  costs : CycleTable
deriving DecidableEq, Repr

/-- The defaults R8 gives: draw, true, 0x00, false, the table of R481. -/
def Params.default : Params :=
  { xyMode := .draw, eiDelay := true, deviceVector := 0x00, memFault := false, costs := [] }

/-- An event of the I/O history (20_memory.md R71, R73). -/
inductive IoEvent where
  /-- `In(port, v)`: `v` is the byte the oracle returned -/
  | input (port : Word) (v : Byte)
  /-- `Out(port, v)` -/
  | output (port : Word) (v : Byte)
deriving DecidableEq, Repr

/-- FREE VALUE: the `n`-th drawn flag bit of a run (R15, 47_cpu_control_io.md R417; log entry 3). -/
opaque Config.drawBit : Nat → Bool

/-- FREE VALUE: the byte `IoRead(port)` returns after a history of I/O events (20_memory.md R71; log entry 4). -/
opaque Config.ioRead : List IoEvent → Word → Byte

/-- FREE VALUE: whether the memory access of draw index `n` at an address fails when `MEM_FAULT` is true
(20_memory.md R68; log entry 5). -/
opaque Config.accessFails : Nat → Word → Bool

end Sys2Proof
end

