-- ==== Sys2Proof/Syntax.lean ====
section
/-! DEFINITION. The instructions: one constructor per mnemonic of spec/opcode_table.json: those with
operands in the table's order, then those without (the compiler numbers at most 245 constructors with fields).
The rows that repeat a mnemonic are one constructor at several operand values (30_encoding.md R116, R123). -/

namespace Sys2Proof

/-- An 8-bit register of `r8` (30_encoding.md R96); code 6, the memory operand, has constructors of its own. -/
inductive Reg8 where
  | b | c | d | e | h | l | a
deriving DecidableEq, Repr

/-- A register pair of `rp` (R97). -/
inductive Pair where
  | bc | de | hl | sp
deriving DecidableEq, Repr

/-- A register pair of `rp2`, the operands of PUSH and POP (R98). -/
inductive StackPair where
  | bc | de | hl | af
deriving DecidableEq, Repr

/-- An index register, selected by the byte DD (IX) or FD (IY) (R110). -/
inductive Idx where
  | ix | iy
deriving DecidableEq, Repr

/-- A condition (R99). -/
inductive Cond where
  | nz | z | nc | c | po | pe | p | m
deriving DecidableEq, Repr

/-- The instructions.  `n` an 8-bit immediate (a bit number in BIT, RES, SET), `nn` a 16-bit immediate, `d` an index
displacement, `e` a relative displacement, `y` and `z` opcode fields (R92). -/
inductive Instr where
  /-- LD rr,nn : 41_load.md, R197 -/
  | ldRrNn (rr : Pair) (nn : Word)
  /-- INC rr : 44_arith16.md, R305 -/
  | incRr (rr : Pair)
  /-- DEC rr : 44_arith16.md, R306 -/
  | decRr (rr : Pair)
  /-- INC r : 43_arith8.md, R270 -/
  | incR (r : Reg8)
  /-- DEC r : 43_arith8.md, R274 -/
  | decR (r : Reg8)
  /-- LD r,n : 41_load.md, R182 -/
  | ldRN (r : Reg8) (n : Byte)
  /-- LD (HL),n : 41_load.md, R185 -/
  | ldMemHlN (n : Byte)
  /-- ADD HL,rr : 44_arith16.md, R301 -/
  | addHlRr (rr : Pair)
  /-- DJNZ e : 46_control.md, R367 -/
  | djnzE (e : Byte)
  /-- JR e : 46_control.md, R365 -/
  | jrE (e : Byte)
  /-- JR cc,e : 46_control.md, R366 -/
  | jrCcE (cc : Cond) (e : Byte)
  /-- LD (nn),HL : 41_load.md, R202 -/
  | ldMemNnHl (nn : Word)
  /-- LD HL,(nn) : 41_load.md, R199 -/
  | ldHlMemNn (nn : Word)
  /-- LD (nn),A : 41_load.md, R191 -/
  | ldMemNnA (nn : Word)
  /-- LD A,(nn) : 41_load.md, R188 -/
  | ldAMemNn (nn : Word)
  /-- LD r,r' : 41_load.md, R181 -/
  | ldRR (r : Reg8) (r' : Reg8)
  /-- LD r,(HL) : 41_load.md, R183 -/
  | ldRMemHl (r : Reg8)
  /-- LD (HL),r : 41_load.md, R184 -/
  | ldMemHlR (r : Reg8)
  /-- ADD A,r : 43_arith8.md, R262 -/
  | addAR (r : Reg8)
  /-- ADD A,n : 43_arith8.md, R262 -/
  | addAN (n : Byte)
  /-- ADC A,r : 43_arith8.md, R263 -/
  | adcAR (r : Reg8)
  /-- ADC A,n : 43_arith8.md, R263 -/
  | adcAN (n : Byte)
  /-- SUB r : 43_arith8.md, R264 -/
  | subR (r : Reg8)
  /-- SUB n : 43_arith8.md, R264 -/
  | subN (n : Byte)
  /-- SBC A,r : 43_arith8.md, R265 -/
  | sbcAR (r : Reg8)
  /-- SBC A,n : 43_arith8.md, R265 -/
  | sbcAN (n : Byte)
  /-- AND r : 43_arith8.md, R266 -/
  | andR (r : Reg8)
  /-- AND n : 43_arith8.md, R266 -/
  | andN (n : Byte)
  /-- XOR r : 43_arith8.md, R267 -/
  | xorR (r : Reg8)
  /-- XOR n : 43_arith8.md, R267 -/
  | xorN (n : Byte)
  /-- OR r : 43_arith8.md, R268 -/
  | orR (r : Reg8)
  /-- OR n : 43_arith8.md, R268 -/
  | orN (n : Byte)
  /-- CP r : 43_arith8.md, R269 -/
  | cpR (r : Reg8)
  /-- CP n : 43_arith8.md, R269 -/
  | cpN (n : Byte)
  /-- RET cc : 46_control.md, R371 -/
  | retCc (cc : Cond)
  /-- POP qq : 41_load.md, R209 -/
  | popQq (qq : StackPair)
  /-- JP cc,nn : 46_control.md, R362 -/
  | jpCcNn (cc : Cond) (nn : Word)
  /-- JP nn : 46_control.md, R361 -/
  | jpNn (nn : Word)
  /-- CALL cc,nn : 46_control.md, R369 -/
  | callCcNn (cc : Cond) (nn : Word)
  /-- PUSH qq : 41_load.md, R207 -/
  | pushQq (qq : StackPair)
  /-- RST p : 46_control.md, R378 -/
  | rstP (y : BitVec 3)
  /-- CALL nn : 46_control.md, R368 -/
  | callNn (nn : Word)
  /-- OUT (n),A : 47_cpu_control_io.md, R412 -/
  | outMemNA (n : Byte)
  /-- IN A,(n) : 47_cpu_control_io.md, R411 -/
  | inAMemN (n : Byte)
  /-- RLC r : 45_rotate_bit.md, R326 -/
  | rlcR (r : Reg8)
  /-- RRC r : 45_rotate_bit.md, R327 -/
  | rrcR (r : Reg8)
  /-- RL r : 45_rotate_bit.md, R328 -/
  | rlR (r : Reg8)
  /-- RR r : 45_rotate_bit.md, R329 -/
  | rrR (r : Reg8)
  /-- SLA r : 45_rotate_bit.md, R330 -/
  | slaR (r : Reg8)
  /-- SRA r : 45_rotate_bit.md, R331 -/
  | sraR (r : Reg8)
  /-- SLL r : 45_rotate_bit.md, R332 -/
  | sllR (r : Reg8)
  /-- SRL r : 45_rotate_bit.md, R333 -/
  | srlR (r : Reg8)
  /-- BIT b,r : 45_rotate_bit.md, R341 -/
  | bitBR (n : BitVec 3) (r : Reg8)
  /-- BIT b,(HL) : 45_rotate_bit.md, R347 -/
  | bitBMemHl (n : BitVec 3)
  /-- RES b,r : 45_rotate_bit.md, R349 -/
  | resBR (n : BitVec 3) (r : Reg8)
  /-- RES b,(HL) : 45_rotate_bit.md, R350 -/
  | resBMemHl (n : BitVec 3)
  /-- SET b,r : 45_rotate_bit.md, R353 -/
  | setBR (n : BitVec 3) (r : Reg8)
  /-- SET b,(HL) : 45_rotate_bit.md, R354 -/
  | setBMemHl (n : BitVec 3)
  /-- IN r,(C) : 47_cpu_control_io.md, R413 -/
  | inRMemC (r : Reg8)
  /-- OUT (C),r : 47_cpu_control_io.md, R415 -/
  | outMemCR (r : Reg8)
  /-- SBC HL,rr : 44_arith16.md, R304 -/
  | sbcHlRr (rr : Pair)
  /-- ADC HL,rr : 44_arith16.md, R303 -/
  | adcHlRr (rr : Pair)
  /-- LD (nn),rr : 41_load.md, R203 -/
  | ldMemNnRr (rr : Pair) (nn : Word)
  /-- LD rr,(nn) : 41_load.md, R200 -/
  | ldRrMemNn (rr : Pair) (nn : Word)
  /-- NEG (duplicate encoding) : 43_arith8.md, R280 -/
  | negDup (y : BitVec 3)
  /-- RETN (duplicate encoding) : 46_control.md, R381 -/
  | retnDup (y : BitVec 3)
  /-- IM 0 (duplicate encoding) : 47_cpu_control_io.md, R404 -/
  | im0Dup (y : BitVec 3)
  /-- (unmapped ED: no-op) : 47_cpu_control_io.md, R428 -/
  | unmappedEd (op : Byte)
  /-- ADD ii,BC : 44_arith16.md, R302 -/
  | addIiBc (ii : Idx)
  /-- ADD ii,DE : 44_arith16.md, R302 -/
  | addIiDe (ii : Idx)
  /-- ADD ii,ii : 44_arith16.md, R302 -/
  | addIiIi (ii : Idx)
  /-- ADD ii,SP : 44_arith16.md, R302 -/
  | addIiSp (ii : Idx)
  /-- LD ii,nn : 41_load.md, R198 -/
  | ldIiNn (ii : Idx) (nn : Word)
  /-- LD (nn),ii : 41_load.md, R204 -/
  | ldMemNnIi (ii : Idx) (nn : Word)
  /-- INC ii : 44_arith16.md, R307 -/
  | incIi (ii : Idx)
  /-- LD ii,(nn) : 41_load.md, R201 -/
  | ldIiMemNn (ii : Idx) (nn : Word)
  /-- DEC ii : 44_arith16.md, R308 -/
  | decIi (ii : Idx)
  /-- INC iiH : 43_arith8.md, R273 -/
  | incIih (ii : Idx)
  /-- DEC iiH : 43_arith8.md, R277 -/
  | decIih (ii : Idx)
  /-- LD iiH,n : 41_load.md, R196 -/
  | ldIihN (ii : Idx) (n : Byte)
  /-- INC iiL : 43_arith8.md, R273 -/
  | incIil (ii : Idx)
  /-- DEC iiL : 43_arith8.md, R277 -/
  | decIil (ii : Idx)
  /-- LD iiL,n : 41_load.md, R196 -/
  | ldIilN (ii : Idx) (n : Byte)
  /-- INC (ii+d) : 43_arith8.md, R272 -/
  | incMemIid (ii : Idx) (d : Byte)
  /-- DEC (ii+d) : 43_arith8.md, R276 -/
  | decMemIid (ii : Idx) (d : Byte)
  /-- LD (ii+d),n : 41_load.md, R194 -/
  | ldMemIidN (ii : Idx) (d : Byte) (n : Byte)
  /-- LD B,iiH : 41_load.md, R195 -/
  | ldBIih (ii : Idx)
  /-- LD B,iiL : 41_load.md, R195 -/
  | ldBIil (ii : Idx)
  /-- LD B,(ii+d) : 41_load.md, R192 -/
  | ldBMemIid (ii : Idx) (d : Byte)
  /-- LD C,iiH : 41_load.md, R195 -/
  | ldCIih (ii : Idx)
  /-- LD C,iiL : 41_load.md, R195 -/
  | ldCIil (ii : Idx)
  /-- LD C,(ii+d) : 41_load.md, R192 -/
  | ldCMemIid (ii : Idx) (d : Byte)
  /-- LD D,iiH : 41_load.md, R195 -/
  | ldDIih (ii : Idx)
  /-- LD D,iiL : 41_load.md, R195 -/
  | ldDIil (ii : Idx)
  /-- LD D,(ii+d) : 41_load.md, R192 -/
  | ldDMemIid (ii : Idx) (d : Byte)
  /-- LD E,iiH : 41_load.md, R195 -/
  | ldEIih (ii : Idx)
  /-- LD E,iiL : 41_load.md, R195 -/
  | ldEIil (ii : Idx)
  /-- LD E,(ii+d) : 41_load.md, R192 -/
  | ldEMemIid (ii : Idx) (d : Byte)
  /-- LD iiH,B : 41_load.md, R195 -/
  | ldIihB (ii : Idx)
  /-- LD iiH,C : 41_load.md, R195 -/
  | ldIihC (ii : Idx)
  /-- LD iiH,D : 41_load.md, R195 -/
  | ldIihD (ii : Idx)
  /-- LD iiH,E : 41_load.md, R195 -/
  | ldIihE (ii : Idx)
  /-- LD iiH,iiH : 41_load.md, R195 -/
  | ldIihIih (ii : Idx)
  /-- LD iiH,iiL : 41_load.md, R195 -/
  | ldIihIil (ii : Idx)
  /-- LD H,(ii+d) : 41_load.md, R192 -/
  | ldHMemIid (ii : Idx) (d : Byte)
  /-- LD iiH,A : 41_load.md, R195 -/
  | ldIihA (ii : Idx)
  /-- LD iiL,B : 41_load.md, R195 -/
  | ldIilB (ii : Idx)
  /-- LD iiL,C : 41_load.md, R195 -/
  | ldIilC (ii : Idx)
  /-- LD iiL,D : 41_load.md, R195 -/
  | ldIilD (ii : Idx)
  /-- LD iiL,E : 41_load.md, R195 -/
  | ldIilE (ii : Idx)
  /-- LD iiL,iiH : 41_load.md, R195 -/
  | ldIilIih (ii : Idx)
  /-- LD iiL,iiL : 41_load.md, R195 -/
  | ldIilIil (ii : Idx)
  /-- LD L,(ii+d) : 41_load.md, R192 -/
  | ldLMemIid (ii : Idx) (d : Byte)
  /-- LD iiL,A : 41_load.md, R195 -/
  | ldIilA (ii : Idx)
  /-- LD (ii+d),B : 41_load.md, R193 -/
  | ldMemIidB (ii : Idx) (d : Byte)
  /-- LD (ii+d),C : 41_load.md, R193 -/
  | ldMemIidC (ii : Idx) (d : Byte)
  /-- LD (ii+d),D : 41_load.md, R193 -/
  | ldMemIidD (ii : Idx) (d : Byte)
  /-- LD (ii+d),E : 41_load.md, R193 -/
  | ldMemIidE (ii : Idx) (d : Byte)
  /-- LD (ii+d),H : 41_load.md, R193 -/
  | ldMemIidH (ii : Idx) (d : Byte)
  /-- LD (ii+d),L : 41_load.md, R193 -/
  | ldMemIidL (ii : Idx) (d : Byte)
  /-- LD (ii+d),A : 41_load.md, R193 -/
  | ldMemIidA (ii : Idx) (d : Byte)
  /-- LD A,iiH : 41_load.md, R195 -/
  | ldAIih (ii : Idx)
  /-- LD A,iiL : 41_load.md, R195 -/
  | ldAIil (ii : Idx)
  /-- LD A,(ii+d) : 41_load.md, R192 -/
  | ldAMemIid (ii : Idx) (d : Byte)
  /-- ADD A,iiH : 43_arith8.md, R262 -/
  | addAIih (ii : Idx)
  /-- ADD A,iiL : 43_arith8.md, R262 -/
  | addAIil (ii : Idx)
  /-- ADD A,(ii+d) : 43_arith8.md, R262 -/
  | addAMemIid (ii : Idx) (d : Byte)
  /-- ADC A,iiH : 43_arith8.md, R263 -/
  | adcAIih (ii : Idx)
  /-- ADC A,iiL : 43_arith8.md, R263 -/
  | adcAIil (ii : Idx)
  /-- ADC A,(ii+d) : 43_arith8.md, R263 -/
  | adcAMemIid (ii : Idx) (d : Byte)
  /-- SUB iiH : 43_arith8.md, R264 -/
  | subIih (ii : Idx)
  /-- SUB iiL : 43_arith8.md, R264 -/
  | subIil (ii : Idx)
  /-- SUB (ii+d) : 43_arith8.md, R264 -/
  | subMemIid (ii : Idx) (d : Byte)
  /-- SBC A,iiH : 43_arith8.md, R265 -/
  | sbcAIih (ii : Idx)
  /-- SBC A,iiL : 43_arith8.md, R265 -/
  | sbcAIil (ii : Idx)
  /-- SBC A,(ii+d) : 43_arith8.md, R265 -/
  | sbcAMemIid (ii : Idx) (d : Byte)
  /-- AND iiH : 43_arith8.md, R266 -/
  | andIih (ii : Idx)
  /-- AND iiL : 43_arith8.md, R266 -/
  | andIil (ii : Idx)
  /-- AND (ii+d) : 43_arith8.md, R266 -/
  | andMemIid (ii : Idx) (d : Byte)
  /-- XOR iiH : 43_arith8.md, R267 -/
  | xorIih (ii : Idx)
  /-- XOR iiL : 43_arith8.md, R267 -/
  | xorIil (ii : Idx)
  /-- XOR (ii+d) : 43_arith8.md, R267 -/
  | xorMemIid (ii : Idx) (d : Byte)
  /-- OR iiH : 43_arith8.md, R268 -/
  | orIih (ii : Idx)
  /-- OR iiL : 43_arith8.md, R268 -/
  | orIil (ii : Idx)
  /-- OR (ii+d) : 43_arith8.md, R268 -/
  | orMemIid (ii : Idx) (d : Byte)
  /-- CP iiH : 43_arith8.md, R269 -/
  | cpIih (ii : Idx)
  /-- CP iiL : 43_arith8.md, R269 -/
  | cpIil (ii : Idx)
  /-- CP (ii+d) : 43_arith8.md, R269 -/
  | cpMemIid (ii : Idx) (d : Byte)
  /-- POP ii : 41_load.md, R210 -/
  | popIi (ii : Idx)
  /-- EX (SP),ii : 42_exchange_block.md, R235 -/
  | exMemSpIi (ii : Idx)
  /-- PUSH ii : 41_load.md, R208 -/
  | pushIi (ii : Idx)
  /-- JP (ii) : 46_control.md, R364 -/
  | jpIi (ii : Idx)
  /-- LD SP,ii : 41_load.md, R206 -/
  | ldSpIi (ii : Idx)
  /-- (lone DD/FD prefix: no-op) : 47_cpu_control_io.md, R427. The next byte is decoded afresh by the next step. -/
  | lonePrefix (ii : Idx)
  /-- RLC (ii+d) : 45_rotate_bit.md, R326 -/
  | rlcMemIid (ii : Idx) (d : Byte)
  /-- RLC (ii+d),r : 45_rotate_bit.md, R326 -/
  | rlcMemIidR (ii : Idx) (d : Byte) (r : Reg8)
  /-- RRC (ii+d) : 45_rotate_bit.md, R327 -/
  | rrcMemIid (ii : Idx) (d : Byte)
  /-- RRC (ii+d),r : 45_rotate_bit.md, R327 -/
  | rrcMemIidR (ii : Idx) (d : Byte) (r : Reg8)
  /-- RL (ii+d) : 45_rotate_bit.md, R328 -/
  | rlMemIid (ii : Idx) (d : Byte)
  /-- RL (ii+d),r : 45_rotate_bit.md, R328 -/
  | rlMemIidR (ii : Idx) (d : Byte) (r : Reg8)
  /-- RR (ii+d) : 45_rotate_bit.md, R329 -/
  | rrMemIid (ii : Idx) (d : Byte)
  /-- RR (ii+d),r : 45_rotate_bit.md, R329 -/
  | rrMemIidR (ii : Idx) (d : Byte) (r : Reg8)
  /-- SLA (ii+d) : 45_rotate_bit.md, R330 -/
  | slaMemIid (ii : Idx) (d : Byte)
  /-- SLA (ii+d),r : 45_rotate_bit.md, R330 -/
  | slaMemIidR (ii : Idx) (d : Byte) (r : Reg8)
  /-- SRA (ii+d) : 45_rotate_bit.md, R331 -/
  | sraMemIid (ii : Idx) (d : Byte)
  /-- SRA (ii+d),r : 45_rotate_bit.md, R331 -/
  | sraMemIidR (ii : Idx) (d : Byte) (r : Reg8)
  /-- SLL (ii+d) : 45_rotate_bit.md, R332 -/
  | sllMemIid (ii : Idx) (d : Byte)
  /-- SLL (ii+d),r : 45_rotate_bit.md, R332 -/
  | sllMemIidR (ii : Idx) (d : Byte) (r : Reg8)
  /-- SRL (ii+d) : 45_rotate_bit.md, R333 -/
  | srlMemIid (ii : Idx) (d : Byte)
  /-- SRL (ii+d),r : 45_rotate_bit.md, R333 -/
  | srlMemIidR (ii : Idx) (d : Byte) (r : Reg8)
  /-- BIT b,(ii+d) : 45_rotate_bit.md, R348. Every z is one form; z is ignored. -/
  | bitBMemIid (ii : Idx) (d : Byte) (n : BitVec 3) (z : BitVec 3)
  /-- RES b,(ii+d) : 45_rotate_bit.md, R351 -/
  | resBMemIid (ii : Idx) (d : Byte) (n : BitVec 3)
  /-- RES b,(ii+d),r : 45_rotate_bit.md, R352 -/
  | resBMemIidR (ii : Idx) (d : Byte) (n : BitVec 3) (r : Reg8)
  /-- SET b,(ii+d) : 45_rotate_bit.md, R355 -/
  | setBMemIid (ii : Idx) (d : Byte) (n : BitVec 3)
  /-- SET b,(ii+d),r : 45_rotate_bit.md, R356 -/
  | setBMemIidR (ii : Idx) (d : Byte) (n : BitVec 3) (r : Reg8)
  /-- NOP : 47_cpu_control_io.md, R391 -/
  | nop
  /-- LD (BC),A : 41_load.md, R189 -/
  | ldMemBcA
  /-- LD (DE),A : 41_load.md, R190 -/
  | ldMemDeA
  /-- INC (HL) : 43_arith8.md, R271 -/
  | incMemHl
  /-- DEC (HL) : 43_arith8.md, R275 -/
  | decMemHl
  /-- RLCA : 45_rotate_bit.md, R321 -/
  | rlca
  /-- RRCA : 45_rotate_bit.md, R322 -/
  | rrca
  /-- RLA : 45_rotate_bit.md, R323 -/
  | rla
  /-- RRA : 45_rotate_bit.md, R324 -/
  | rra
  /-- EX AF,AF' : 42_exchange_block.md, R231 -/
  | exAfAf
  /-- LD A,(BC) : 41_load.md, R186 -/
  | ldAMemBc
  /-- LD A,(DE) : 41_load.md, R187 -/
  | ldAMemDe
  /-- DAA : 43_arith8.md, R278 -/
  | daa
  /-- CPL : 43_arith8.md, R279 -/
  | cpl
  /-- SCF : 43_arith8.md, R282 -/
  | scf
  /-- CCF : 43_arith8.md, R281 -/
  | ccf
  /-- HALT : 47_cpu_control_io.md, R392 -/
  | halt
  /-- ADD A,(HL) : 43_arith8.md, R262 -/
  | addAMemHl
  /-- ADC A,(HL) : 43_arith8.md, R263 -/
  | adcAMemHl
  /-- SUB (HL) : 43_arith8.md, R264 -/
  | subMemHl
  /-- SBC A,(HL) : 43_arith8.md, R265 -/
  | sbcAMemHl
  /-- AND (HL) : 43_arith8.md, R266 -/
  | andMemHl
  /-- XOR (HL) : 43_arith8.md, R267 -/
  | xorMemHl
  /-- OR (HL) : 43_arith8.md, R268 -/
  | orMemHl
  /-- CP (HL) : 43_arith8.md, R269 -/
  | cpMemHl
  /-- POP AF : 41_load.md, R214. R214: A takes the high byte, all eight bits of F the low byte, under every XY_MODE. -/
  | popAf
  /-- RET : 46_control.md, R370 -/
  | ret
  /-- EXX : 42_exchange_block.md, R232 -/
  | exx
  /-- EX (SP),HL : 42_exchange_block.md, R234 -/
  | exMemSpHl
  /-- JP (HL) : 46_control.md, R363 -/
  | jpHl
  /-- EX DE,HL : 42_exchange_block.md, R233 -/
  | exDeHl
  /-- DI : 47_cpu_control_io.md, R402 -/
  | di
  /-- LD SP,HL : 41_load.md, R205 -/
  | ldSpHl
  /-- EI : 47_cpu_control_io.md, R403 -/
  | ei
  /-- RLC (HL) : 45_rotate_bit.md, R326 -/
  | rlcMemHl
  /-- RRC (HL) : 45_rotate_bit.md, R327 -/
  | rrcMemHl
  /-- RL (HL) : 45_rotate_bit.md, R328 -/
  | rlMemHl
  /-- RR (HL) : 45_rotate_bit.md, R329 -/
  | rrMemHl
  /-- SLA (HL) : 45_rotate_bit.md, R330 -/
  | slaMemHl
  /-- SRA (HL) : 45_rotate_bit.md, R331 -/
  | sraMemHl
  /-- SLL (HL) : 45_rotate_bit.md, R332 -/
  | sllMemHl
  /-- SRL (HL) : 45_rotate_bit.md, R333 -/
  | srlMemHl
  /-- IN (C) : 47_cpu_control_io.md, R414 -/
  | inMemC
  /-- OUT (C),0 : 47_cpu_control_io.md, R416 -/
  | outMemC0
  /-- NEG : 43_arith8.md, R280 -/
  | neg
  /-- RETN : 46_control.md, R381 -/
  | retn
  /-- RETI : 46_control.md, R382 -/
  | reti
  /-- IM 0 : 47_cpu_control_io.md, R404 -/
  | im0
  /-- IM 1 : 47_cpu_control_io.md, R404 -/
  | im1
  /-- IM 1 (duplicate encoding) : 47_cpu_control_io.md, R404 -/
  | im1Dup
  /-- IM 2 : 47_cpu_control_io.md, R404 -/
  | im2
  /-- IM 2 (duplicate encoding) : 47_cpu_control_io.md, R404 -/
  | im2Dup
  /-- LD I,A : 47_cpu_control_io.md, R405 -/
  | ldIA
  /-- LD R,A : 47_cpu_control_io.md, R407 -/
  | ldRegRA
  /-- LD A,I : 47_cpu_control_io.md, R406 -/
  | ldAI
  /-- LD A,R : 47_cpu_control_io.md, R408 -/
  | ldARegR
  /-- RRD : 45_rotate_bit.md, R335 -/
  | rrd
  /-- RLD : 45_rotate_bit.md, R334 -/
  | rld
  /-- LDI : 42_exchange_block.md, R236 -/
  | ldi
  /-- LDD : 42_exchange_block.md, R237 -/
  | ldd
  /-- LDIR : 42_exchange_block.md, R238 -/
  | ldir
  /-- LDDR : 42_exchange_block.md, R239 -/
  | lddr
  /-- CPI : 42_exchange_block.md, R241 -/
  | cpi
  /-- CPD : 42_exchange_block.md, R242 -/
  | cpd
  /-- CPIR : 42_exchange_block.md, R243 -/
  | cpir
  /-- CPDR : 42_exchange_block.md, R244 -/
  | cpdr
  /-- INI : 47_cpu_control_io.md, R417 -/
  | ini
  /-- IND : 47_cpu_control_io.md, R418 -/
  | ind
  /-- INIR : 47_cpu_control_io.md, R419 -/
  | inir
  /-- INDR : 47_cpu_control_io.md, R420 -/
  | indr
  /-- OUTI : 47_cpu_control_io.md, R421 -/
  | outi
  /-- OUTD : 47_cpu_control_io.md, R422 -/
  | outd
  /-- OTIR : 47_cpu_control_io.md, R423 -/
  | otir
  /-- OTDR : 47_cpu_control_io.md, R424 -/
  | otdr
deriving DecidableEq, Repr

end Sys2Proof
end

