-- ==== Sys2Proof/WellFormed.lean ====
section
/-! DEFINITION. Which terms of `Instr` an encoding of the spec exists for (30_encoding.md R102 to R117).  Operands are typed, so only
the forms below need a check: every other term is well formed. -/

namespace Sys2Proof

/-- The second bytes after ED that no instruction uses, as R117 lists them. -/
def isUnmappedEd (op : Byte) : Bool :=
  op ≤ 0x3F || op == 0x77 || op == 0x7F || (0x80 ≤ op && op ≤ 0x9F) || (0xA4 ≤ op && op ≤ 0xA7)
    || (0xAC ≤ op && op ≤ 0xAF) || (0xB4 ≤ op && op ≤ 0xB7) || 0xBC ≤ op

/-- The conditions of JR, codes 0 to 3 (R99). -/
def Cond.isShort : Cond → Bool
  | .nz | .z | .nc | .c => true
  | .po | .pe | .p | .m => false

/-- Well-formedness: POP qq without AF (its own row, R214), JR with a short condition (R99), the duplicate columns of NEG, RETN
and IM 0 without the canonical bytes (R116), and the unmapped ED bytes (R117). -/
def Instr.wf : Instr → Bool
  | .jrCcE cc _ => cc.isShort
  | .popQq qq => qq != .af
  | .negDup y => y != 0
  | .retnDup y => y != 0 && y != 1
  | .im0Dup y => y == 1 || y == 4 || y == 5
  | .unmappedEd op => isUnmappedEd op
  | .ldRrNn _ _ | .incRr _ | .decRr _ | .incR _ | .decR _ | .ldRN _ _ | .ldMemHlN _ | .addHlRr _ | .djnzE _ | .jrE _
  | .ldMemNnHl _ | .ldHlMemNn _ | .ldMemNnA _ | .ldAMemNn _ | .ldRR _ _ | .ldRMemHl _ | .ldMemHlR _ | .addAR _
  | .addAN _ | .adcAR _ | .adcAN _ | .subR _ | .subN _ | .sbcAR _ | .sbcAN _ | .andR _ | .andN _ | .xorR _ | .xorN _
  | .orR _ | .orN _ | .cpR _ | .cpN _ | .retCc _ | .jpCcNn _ _ | .jpNn _ | .callCcNn _ _ | .pushQq _ | .rstP _
  | .callNn _ | .outMemNA _ | .inAMemN _ | .rlcR _ | .rrcR _ | .rlR _ | .rrR _ | .slaR _ | .sraR _ | .sllR _ | .srlR _
  | .bitBR _ _ | .bitBMemHl _ | .resBR _ _ | .resBMemHl _ | .setBR _ _ | .setBMemHl _ | .inRMemC _ | .outMemCR _
  | .sbcHlRr _ | .adcHlRr _ | .ldMemNnRr _ _ | .ldRrMemNn _ _ | .addIiBc _ | .addIiDe _ | .addIiIi _ | .addIiSp _
  | .ldIiNn _ _ | .ldMemNnIi _ _ | .incIi _ | .ldIiMemNn _ _ | .decIi _ | .incIih _ | .decIih _ | .ldIihN _ _
  | .incIil _ | .decIil _ | .ldIilN _ _ | .incMemIid _ _ | .decMemIid _ _ | .ldMemIidN _ _ _ | .ldBIih _ | .ldBIil _
  | .ldBMemIid _ _ | .ldCIih _ | .ldCIil _ | .ldCMemIid _ _ | .ldDIih _ | .ldDIil _ | .ldDMemIid _ _ | .ldEIih _
  | .ldEIil _ | .ldEMemIid _ _ | .ldIihB _ | .ldIihC _ | .ldIihD _ | .ldIihE _ | .ldIihIih _ | .ldIihIil _
  | .ldHMemIid _ _ | .ldIihA _ | .ldIilB _ | .ldIilC _ | .ldIilD _ | .ldIilE _ | .ldIilIih _ | .ldIilIil _
  | .ldLMemIid _ _ | .ldIilA _ | .ldMemIidB _ _ | .ldMemIidC _ _ | .ldMemIidD _ _ | .ldMemIidE _ _ | .ldMemIidH _ _
  | .ldMemIidL _ _ | .ldMemIidA _ _ | .ldAIih _ | .ldAIil _ | .ldAMemIid _ _ | .addAIih _ | .addAIil _
  | .addAMemIid _ _ | .adcAIih _ | .adcAIil _ | .adcAMemIid _ _ | .subIih _ | .subIil _ | .subMemIid _ _ | .sbcAIih _
  | .sbcAIil _ | .sbcAMemIid _ _ | .andIih _ | .andIil _ | .andMemIid _ _ | .xorIih _ | .xorIil _ | .xorMemIid _ _
  | .orIih _ | .orIil _ | .orMemIid _ _ | .cpIih _ | .cpIil _ | .cpMemIid _ _ | .popIi _ | .exMemSpIi _ | .pushIi _
  | .jpIi _ | .ldSpIi _ | .lonePrefix _ | .rlcMemIid _ _ | .rlcMemIidR _ _ _ | .rrcMemIid _ _ | .rrcMemIidR _ _ _
  | .rlMemIid _ _ | .rlMemIidR _ _ _ | .rrMemIid _ _ | .rrMemIidR _ _ _ | .slaMemIid _ _ | .slaMemIidR _ _ _
  | .sraMemIid _ _ | .sraMemIidR _ _ _ | .sllMemIid _ _ | .sllMemIidR _ _ _ | .srlMemIid _ _ | .srlMemIidR _ _ _
  | .bitBMemIid _ _ _ _ | .resBMemIid _ _ _ | .resBMemIidR _ _ _ _ | .setBMemIid _ _ _ | .setBMemIidR _ _ _ _ | .nop
  | .ldMemBcA | .ldMemDeA | .incMemHl | .decMemHl | .rlca | .rrca | .rla | .rra | .exAfAf | .ldAMemBc | .ldAMemDe
  | .daa | .cpl | .scf | .ccf | .halt | .addAMemHl | .adcAMemHl | .subMemHl | .sbcAMemHl | .andMemHl | .xorMemHl
  | .orMemHl | .cpMemHl | .popAf | .ret | .exx | .exMemSpHl | .jpHl | .exDeHl | .di | .ldSpHl | .ei | .rlcMemHl
  | .rrcMemHl | .rlMemHl | .rrMemHl | .slaMemHl | .sraMemHl | .sllMemHl | .srlMemHl | .inMemC | .outMemC0 | .neg
  | .retn | .reti | .im0 | .im1 | .im1Dup | .im2 | .im2Dup | .ldIA | .ldRegRA | .ldAI | .ldARegR | .rrd | .rld | .ldi
  | .ldd | .ldir | .lddr | .cpi | .cpd | .cpir | .cpdr | .ini | .ind | .inir | .indr | .outi | .outd | .otir | .otdr => true

end Sys2Proof
end

