-- ==== Sys2Proof/Decode.lean ====
section
/-! DEFINITION. Decoding and encoding (spec/30_encoding.md): the byte helpers, the fields of an opcode byte, the five tables,
the decoder of R118, total on any bytes, and the encoder written from the same tables. -/

namespace Sys2Proof

/-- `lo(w)`, the low byte of a word (00_scope.md R10). -/
def loByte (w : Word) : Byte := w.extractLsb' 0 8

/-- `hi(w)`, the high byte of a word (00_scope.md R10). -/
def hiByte (w : Word) : Byte := w.extractLsb' 8 8

/-- `hi:lo`, the word of two bytes (00_scope.md R10, 20_memory.md R64). -/
def joinBytes (hi lo : Byte) : Word := hi ++ lo

/-! ### Fields of an opcode byte (R92) -/

/-- `x = op[7:6]` -/
def fieldX (op : Byte) : BitVec 2 := op.extractLsb' 6 2
/-- `y = op[5:3]` -/
def fieldY (op : Byte) : BitVec 3 := op.extractLsb' 3 3
/-- `z = op[2:0]` -/
def fieldZ (op : Byte) : BitVec 3 := op.extractLsb' 0 3
/-- `p = op[5:4]` -/
def fieldP (op : Byte) : BitVec 2 := op.extractLsb' 4 2
/-- `q = op[3]` -/
def fieldQ (op : Byte) : BitVec 1 := op.extractLsb' 3 1

/-- The opcode byte of fields x, y, z. -/
def opByte (x : BitVec 2) (y z : BitVec 3) : Byte := x ++ y ++ z

/-- The opcode byte of fields x, p, q, z. -/
def opPQ (x p : BitVec 2) (q : BitVec 1) (z : BitVec 3) : Byte := x ++ p ++ q ++ z

/-! ### The field tables (R96 to R99) -/

/-- The code of an 8-bit register (R96). -/
def Reg8.code : Reg8 → BitVec 3
  | .b => 0 | .c => 1 | .d => 2 | .e => 3 | .h => 4 | .l => 5 | .a => 7

/-- The register of a code; none for 6, the memory operand (R96). -/
def Reg8.ofCode (c : BitVec 3) : Option Reg8 :=
  match c.toNat with
  | 0 => some .b
  | 1 => some .c
  | 2 => some .d
  | 3 => some .e
  | 4 => some .h
  | 5 => some .l
  | 6 => none
  | _ => some .a

/-- The code of a pair of `rp` (R97). -/
def Pair.code : Pair → BitVec 2
  | .bc => 0 | .de => 1 | .hl => 2 | .sp => 3

/-- The pair of a code of `rp` (R97). -/
def Pair.ofCode (c : BitVec 2) : Pair :=
  match c.toNat with
  | 0 => .bc
  | 1 => .de
  | 2 => .hl
  | _ => .sp

/-- The code of a pair of `rp2` (R98). -/
def StackPair.code : StackPair → BitVec 2
  | .bc => 0 | .de => 1 | .hl => 2 | .af => 3

/-- The pair of a code of `rp2` (R98). -/
def StackPair.ofCode (c : BitVec 2) : StackPair :=
  match c.toNat with
  | 0 => .bc
  | 1 => .de
  | 2 => .hl
  | _ => .af

/-- The code of a condition (R99). -/
def Cond.code : Cond → BitVec 3
  | .nz => 0 | .z => 1 | .nc => 2 | .c => 3 | .po => 4 | .pe => 5 | .p => 6 | .m => 7

/-- The condition of a code (R99). -/
def Cond.ofCode (c : BitVec 3) : Cond :=
  match c.toNat with
  | 0 => .nz
  | 1 => .z
  | 2 => .nc
  | 3 => .c
  | 4 => .po
  | 5 => .pe
  | 6 => .p
  | _ => .m

/-- The byte that selects an index register (R110). -/
def Idx.byte : Idx → Byte
  | .ix => 0xDD | .iy => 0xFD

/-! ### The tables -/

/-- The CB table (R109): the second byte `op`. -/
def decodeCb (op : Byte) : Instr :=
  let y := fieldY op
  match (fieldX op).toNat, Reg8.ofCode (fieldZ op) with
  | 0, some r =>
    match y.toNat with
    | 0 => .rlcR r
    | 1 => .rrcR r
    | 2 => .rlR r
    | 3 => .rrR r
    | 4 => .slaR r
    | 5 => .sraR r
    | 6 => .sllR r
    | _ => .srlR r
  | 0, none =>
    match y.toNat with
    | 0 => .rlcMemHl
    | 1 => .rrcMemHl
    | 2 => .rlMemHl
    | 3 => .rrMemHl
    | 4 => .slaMemHl
    | 5 => .sraMemHl
    | 6 => .sllMemHl
    | _ => .srlMemHl
  | 1, some r => .bitBR y r
  | 1, none => .bitBMemHl y
  | 2, some r => .resBR y r
  | 2, none => .resBMemHl y
  | _, some r => .setBR y r
  | _, none => .setBMemHl y

/-- The displaced-CB table (R115): the displacement `d`, then the last byte `op`. -/
def decodeXcb (ii : Idx) (d op : Byte) : Instr :=
  let y := fieldY op
  match (fieldX op).toNat, Reg8.ofCode (fieldZ op) with
  | 0, some r =>
    match y.toNat with
    | 0 => .rlcMemIidR ii d r
    | 1 => .rrcMemIidR ii d r
    | 2 => .rlMemIidR ii d r
    | 3 => .rrMemIidR ii d r
    | 4 => .slaMemIidR ii d r
    | 5 => .sraMemIidR ii d r
    | 6 => .sllMemIidR ii d r
    | _ => .srlMemIidR ii d r
  | 0, none =>
    match y.toNat with
    | 0 => .rlcMemIid ii d
    | 1 => .rrcMemIid ii d
    | 2 => .rlMemIid ii d
    | 3 => .rrMemIid ii d
    | 4 => .slaMemIid ii d
    | 5 => .sraMemIid ii d
    | 6 => .sllMemIid ii d
    | _ => .srlMemIid ii d
  | 1, _ => .bitBMemIid ii d y (fieldZ op)
  | 2, some r => .resBMemIidR ii d y r
  | 2, none => .resBMemIid ii d y
  | _, some r => .setBMemIidR ii d y r
  | _, none => .setBMemIid ii d y

/-- Quadrant x = 1 of the ED table (R116): the second byte `op`, then the immediate bytes of the 4-byte forms. -/
def decodeEd1 (op b2 b3 : Byte) : Instr :=
  let y := fieldY op
  let rr := Pair.ofCode (fieldP op)
  match (fieldZ op).toNat with
  | 0 =>
    match Reg8.ofCode y with
    | some r => .inRMemC r
    | none => .inMemC
  | 1 =>
    match Reg8.ofCode y with
    | some r => .outMemCR r
    | none => .outMemC0
  | 2 => if fieldQ op = 0 then .sbcHlRr rr else .adcHlRr rr
  | 3 => if fieldQ op = 0 then .ldMemNnRr rr (joinBytes b3 b2) else .ldRrMemNn rr (joinBytes b3 b2)
  | 4 => if y = 0 then .neg else .negDup y
  | 5 =>
    match y.toNat with
    | 0 => .retn
    | 1 => .reti
    | _ => .retnDup y
  | 6 =>
    match y.toNat with
    | 0 => .im0
    | 2 => .im1
    | 3 => .im2
    | 6 => .im1Dup
    | 7 => .im2Dup
    | _ => .im0Dup y
  | _ =>
    match y.toNat with
    | 0 => .ldIA
    | 1 => .ldRegRA
    | 2 => .ldAI
    | 3 => .ldARegR
    | 4 => .rrd
    | 5 => .rld
    | _ => .unmappedEd op

/-- The block instructions of the ED table (R116): x = 2, y from 4 and z to 3; every other byte is unmapped (R117). -/
def decodeEd2 (op : Byte) : Instr :=
  match (fieldY op).toNat, (fieldZ op).toNat with
  | 4, 0 => .ldi
  | 4, 1 => .cpi
  | 4, 2 => .ini
  | 4, 3 => .outi
  | 5, 0 => .ldd
  | 5, 1 => .cpd
  | 5, 2 => .ind
  | 5, 3 => .outd
  | 6, 0 => .ldir
  | 6, 1 => .cpir
  | 6, 2 => .inir
  | 6, 3 => .otir
  | 7, 0 => .lddr
  | 7, 1 => .cpdr
  | 7, 2 => .indr
  | 7, 3 => .otdr
  | _, _ => .unmappedEd op

/-- The ED table (R116, R117). -/
def decodeEd (op b2 b3 : Byte) : Instr :=
  match (fieldX op).toNat with
  | 1 => decodeEd1 op b2 b3
  | 2 => decodeEd2 op
  | _ => .unmappedEd op

/-- The loads of x = 1 after DD or FD (R111, R113): a displaced operand leaves the other code plain; without one the codes 4 and 5
are the halves of `ii`; a form that names neither is the lone byte (R112). -/
def decodeIdxLd (ii : Idx) (y z : BitVec 3) (d : Byte) : Instr :=
  match y.toNat, z.toNat with
  | 0, 4 => .ldBIih ii
  | 0, 5 => .ldBIil ii
  | 0, 6 => .ldBMemIid ii d
  | 1, 4 => .ldCIih ii
  | 1, 5 => .ldCIil ii
  | 1, 6 => .ldCMemIid ii d
  | 2, 4 => .ldDIih ii
  | 2, 5 => .ldDIil ii
  | 2, 6 => .ldDMemIid ii d
  | 3, 4 => .ldEIih ii
  | 3, 5 => .ldEIil ii
  | 3, 6 => .ldEMemIid ii d
  | 4, 0 => .ldIihB ii
  | 4, 1 => .ldIihC ii
  | 4, 2 => .ldIihD ii
  | 4, 3 => .ldIihE ii
  | 4, 4 => .ldIihIih ii
  | 4, 5 => .ldIihIil ii
  | 4, 6 => .ldHMemIid ii d
  | 4, 7 => .ldIihA ii
  | 5, 0 => .ldIilB ii
  | 5, 1 => .ldIilC ii
  | 5, 2 => .ldIilD ii
  | 5, 3 => .ldIilE ii
  | 5, 4 => .ldIilIih ii
  | 5, 5 => .ldIilIil ii
  | 5, 6 => .ldLMemIid ii d
  | 5, 7 => .ldIilA ii
  | 6, 0 => .ldMemIidB ii d
  | 6, 1 => .ldMemIidC ii d
  | 6, 2 => .ldMemIidD ii d
  | 6, 3 => .ldMemIidE ii d
  | 6, 4 => .ldMemIidH ii d
  | 6, 5 => .ldMemIidL ii d
  | 6, 7 => .ldMemIidA ii d
  | 7, 4 => .ldAIih ii
  | 7, 5 => .ldAIil ii
  | 7, 6 => .ldAMemIid ii d
  | _, _ => .lonePrefix ii

/-- The accumulator operations of x = 2 after DD or FD (R111). -/
def decodeIdxAlu (ii : Idx) (y z : BitVec 3) (d : Byte) : Instr :=
  match z.toNat, y.toNat with
  | 4, 0 => .addAIih ii
  | 4, 1 => .adcAIih ii
  | 4, 2 => .subIih ii
  | 4, 3 => .sbcAIih ii
  | 4, 4 => .andIih ii
  | 4, 5 => .xorIih ii
  | 4, 6 => .orIih ii
  | 4, 7 => .cpIih ii
  | 5, 0 => .addAIil ii
  | 5, 1 => .adcAIil ii
  | 5, 2 => .subIil ii
  | 5, 3 => .sbcAIil ii
  | 5, 4 => .andIil ii
  | 5, 5 => .xorIil ii
  | 5, 6 => .orIil ii
  | 5, 7 => .cpIil ii
  | 6, 0 => .addAMemIid ii d
  | 6, 1 => .adcAMemIid ii d
  | 6, 2 => .subMemIid ii d
  | 6, 3 => .sbcAMemIid ii d
  | 6, 4 => .andMemIid ii d
  | 6, 5 => .xorMemIid ii d
  | 6, 6 => .orMemIid ii d
  | 6, 7 => .cpMemIid ii d
  | _, _ => .lonePrefix ii

/-- The forms of x = 0 after DD or FD (R111). -/
def decodeIdx0 (ii : Idx) (op b2 b3 : Byte) : Instr :=
  match op.toNat with
  | 0x09 => .addIiBc ii
  | 0x19 => .addIiDe ii
  | 0x29 => .addIiIi ii
  | 0x39 => .addIiSp ii
  | 0x21 => .ldIiNn ii (joinBytes b3 b2)
  | 0x22 => .ldMemNnIi ii (joinBytes b3 b2)
  | 0x2A => .ldIiMemNn ii (joinBytes b3 b2)
  | 0x23 => .incIi ii
  | 0x2B => .decIi ii
  | 0x24 => .incIih ii
  | 0x2C => .incIil ii
  | 0x25 => .decIih ii
  | 0x2D => .decIil ii
  | 0x26 => .ldIihN ii b2
  | 0x2E => .ldIilN ii b2
  | 0x34 => .incMemIid ii b2
  | 0x35 => .decMemIid ii b2
  | 0x36 => .ldMemIidN ii b2 b3
  | _ => .lonePrefix ii

/-- The forms of x = 3 after DD or FD, the displaced-CB escape among them (R111, R114). -/
def decodeIdx3 (ii : Idx) (op b2 b3 : Byte) : Instr :=
  match op.toNat with
  | 0xCB => decodeXcb ii b2 b3
  | 0xE1 => .popIi ii
  | 0xE5 => .pushIi ii
  | 0xE3 => .exMemSpIi ii
  | 0xE9 => .jpIi ii
  | 0xF9 => .ldSpIi ii
  | _ => .lonePrefix ii

/-- The DD and FD tables (R110 to R114): the byte `op` after the selecting byte, then the bytes that follow. -/
def decodeIdx (ii : Idx) (op b2 b3 : Byte) : Instr :=
  match (fieldX op).toNat with
  | 0 => decodeIdx0 ii op b2 b3
  | 1 => decodeIdxLd ii (fieldY op) (fieldZ op) b2
  | 2 => decodeIdxAlu ii (fieldY op) (fieldZ op) b2
  | _ => decodeIdx3 ii op b2 b3

/-- Quadrant x = 0 of the base table (R102). -/
def decodeBase0 (op b1 b2 : Byte) : Instr :=
  let y := fieldY op
  let rr := Pair.ofCode (fieldP op)
  let nn := joinBytes b2 b1
  match (fieldZ op).toNat with
  | 0 =>
    match y.toNat with
    | 0 => .nop
    | 1 => .exAfAf
    | 2 => .djnzE b1
    | 3 => .jrE b1
    | _ => .jrCcE (Cond.ofCode (y - 4)) b1
  | 1 => if fieldQ op = 0 then .ldRrNn rr nn else .addHlRr rr
  | 2 =>
    match y.toNat with
    | 0 => .ldMemBcA
    | 1 => .ldAMemBc
    | 2 => .ldMemDeA
    | 3 => .ldAMemDe
    | 4 => .ldMemNnHl nn
    | 5 => .ldHlMemNn nn
    | 6 => .ldMemNnA nn
    | _ => .ldAMemNn nn
  | 3 => if fieldQ op = 0 then .incRr rr else .decRr rr
  | 4 =>
    match Reg8.ofCode y with
    | some r => .incR r
    | none => .incMemHl
  | 5 =>
    match Reg8.ofCode y with
    | some r => .decR r
    | none => .decMemHl
  | 6 =>
    match Reg8.ofCode y with
    | some r => .ldRN r b1
    | none => .ldMemHlN b1
  | _ =>
    match y.toNat with
    | 0 => .rlca
    | 1 => .rrca
    | 2 => .rla
    | 3 => .rra
    | 4 => .daa
    | 5 => .cpl
    | 6 => .scf
    | _ => .ccf

/-- Quadrant x = 1 of the base table (R103): the register loads and HALT. -/
def decodeBase1 (op : Byte) : Instr :=
  match Reg8.ofCode (fieldY op), Reg8.ofCode (fieldZ op) with
  | some r, some r' => .ldRR r r'
  | some r, none => .ldRMemHl r
  | none, some r => .ldMemHlR r
  | none, none => .halt

/-- Quadrant x = 2 of the base table (R103): `alu[y]` with source `r8[z]` (R100). -/
def decodeBase2 (op : Byte) : Instr :=
  match Reg8.ofCode (fieldZ op) with
  | some r =>
    match (fieldY op).toNat with
    | 0 => .addAR r
    | 1 => .adcAR r
    | 2 => .subR r
    | 3 => .sbcAR r
    | 4 => .andR r
    | 5 => .xorR r
    | 6 => .orR r
    | _ => .cpR r
  | none =>
    match (fieldY op).toNat with
    | 0 => .addAMemHl
    | 1 => .adcAMemHl
    | 2 => .subMemHl
    | 3 => .sbcAMemHl
    | 4 => .andMemHl
    | 5 => .xorMemHl
    | 6 => .orMemHl
    | _ => .cpMemHl

/-- Quadrant x = 3 of the base table (R104), with its four escapes to the other tables. -/
def decodeBase3 (op b1 b2 b3 : Byte) : Instr :=
  let y := fieldY op
  let nn := joinBytes b2 b1
  match (fieldZ op).toNat with
  | 0 => .retCc (Cond.ofCode y)
  | 1 =>
    match y.toNat with
    | 1 => .ret
    | 3 => .exx
    | 5 => .jpHl
    | 7 => .ldSpHl
    | 6 => .popAf
    | _ => .popQq (StackPair.ofCode (fieldP op))
  | 2 => .jpCcNn (Cond.ofCode y) nn
  | 3 =>
    match y.toNat with
    | 0 => .jpNn nn
    | 1 => decodeCb b1
    | 2 => .outMemNA b1
    | 3 => .inAMemN b1
    | 4 => .exMemSpHl
    | 5 => .exDeHl
    | 6 => .di
    | _ => .ei
  | 4 => .callCcNn (Cond.ofCode y) nn
  | 5 =>
    match y.toNat with
    | 1 => .callNn nn
    | 3 => decodeIdx .ix b1 b2 b3
    | 5 => decodeEd b1 b2 b3
    | 7 => decodeIdx .iy b1 b2 b3
    | _ => .pushQq (StackPair.ofCode (fieldP op))
  | 6 =>
    match y.toNat with
    | 0 => .addAN b1
    | 1 => .adcAN b1
    | 2 => .subN b1
    | 3 => .sbcAN b1
    | 4 => .andN b1
    | 5 => .xorN b1
    | 6 => .orN b1
    | _ => .cpN b1
  | _ => .rstP y

/-- The decode algorithm of R118 on the four bytes at PC, PC + 1, PC + 2, PC + 3; it depends on the bytes alone (R120) and every
byte sequence selects exactly one form. -/
def decodeBytes (b0 b1 b2 b3 : Byte) : Instr :=
  match (fieldX b0).toNat with
  | 0 => decodeBase0 b0 b1 b2
  | 1 => decodeBase1 b0
  | 2 => decodeBase2 b0
  | _ => decodeBase3 b0 b1 b2 b3

/-! ### Lengths and the encoder -/

/-- The length in bytes of each form (R91; column `length` of the table). -/
def Instr.length : Instr → Nat
  | .incRr _ | .decRr _ | .incR _ | .decR _ | .addHlRr _ | .ldRR _ _ | .ldRMemHl _ | .ldMemHlR _ | .addAR _ | .adcAR _
  | .subR _ | .sbcAR _ | .andR _ | .xorR _ | .orR _ | .cpR _ | .retCc _ | .popQq _ | .pushQq _ | .rstP _
  | .lonePrefix _ | .nop | .ldMemBcA | .ldMemDeA | .incMemHl | .decMemHl | .rlca | .rrca | .rla | .rra | .exAfAf
  | .ldAMemBc | .ldAMemDe | .daa | .cpl | .scf | .ccf | .halt | .addAMemHl | .adcAMemHl | .subMemHl | .sbcAMemHl
  | .andMemHl | .xorMemHl | .orMemHl | .cpMemHl | .popAf | .ret | .exx | .exMemSpHl | .jpHl | .exDeHl | .di | .ldSpHl
  | .ei => 1
  | .ldRN _ _ | .ldMemHlN _ | .djnzE _ | .jrE _ | .jrCcE _ _ | .addAN _ | .adcAN _ | .subN _ | .sbcAN _ | .andN _
  | .xorN _ | .orN _ | .cpN _ | .outMemNA _ | .inAMemN _ | .rlcR _ | .rrcR _ | .rlR _ | .rrR _ | .slaR _ | .sraR _
  | .sllR _ | .srlR _ | .bitBR _ _ | .bitBMemHl _ | .resBR _ _ | .resBMemHl _ | .setBR _ _ | .setBMemHl _ | .inRMemC _
  | .outMemCR _ | .sbcHlRr _ | .adcHlRr _ | .negDup _ | .retnDup _ | .im0Dup _ | .unmappedEd _ | .addIiBc _
  | .addIiDe _ | .addIiIi _ | .addIiSp _ | .incIi _ | .decIi _ | .incIih _ | .decIih _ | .incIil _ | .decIil _
  | .ldBIih _ | .ldBIil _ | .ldCIih _ | .ldCIil _ | .ldDIih _ | .ldDIil _ | .ldEIih _ | .ldEIil _ | .ldIihB _
  | .ldIihC _ | .ldIihD _ | .ldIihE _ | .ldIihIih _ | .ldIihIil _ | .ldIihA _ | .ldIilB _ | .ldIilC _ | .ldIilD _
  | .ldIilE _ | .ldIilIih _ | .ldIilIil _ | .ldIilA _ | .ldAIih _ | .ldAIil _ | .addAIih _ | .addAIil _ | .adcAIih _
  | .adcAIil _ | .subIih _ | .subIil _ | .sbcAIih _ | .sbcAIil _ | .andIih _ | .andIil _ | .xorIih _ | .xorIil _
  | .orIih _ | .orIil _ | .cpIih _ | .cpIil _ | .popIi _ | .exMemSpIi _ | .pushIi _ | .jpIi _ | .ldSpIi _ | .rlcMemHl
  | .rrcMemHl | .rlMemHl | .rrMemHl | .slaMemHl | .sraMemHl | .sllMemHl | .srlMemHl | .inMemC | .outMemC0 | .neg
  | .retn | .reti | .im0 | .im1 | .im1Dup | .im2 | .im2Dup | .ldIA | .ldRegRA | .ldAI | .ldARegR | .rrd | .rld | .ldi
  | .ldd | .ldir | .lddr | .cpi | .cpd | .cpir | .cpdr | .ini | .ind | .inir | .indr | .outi | .outd | .otir | .otdr => 2
  | .ldRrNn _ _ | .ldMemNnHl _ | .ldHlMemNn _ | .ldMemNnA _ | .ldAMemNn _ | .jpCcNn _ _ | .jpNn _ | .callCcNn _ _
  | .callNn _ | .ldIihN _ _ | .ldIilN _ _ | .incMemIid _ _ | .decMemIid _ _ | .ldBMemIid _ _ | .ldCMemIid _ _
  | .ldDMemIid _ _ | .ldEMemIid _ _ | .ldHMemIid _ _ | .ldLMemIid _ _ | .ldMemIidB _ _ | .ldMemIidC _ _
  | .ldMemIidD _ _ | .ldMemIidE _ _ | .ldMemIidH _ _ | .ldMemIidL _ _ | .ldMemIidA _ _ | .ldAMemIid _ _
  | .addAMemIid _ _ | .adcAMemIid _ _ | .subMemIid _ _ | .sbcAMemIid _ _ | .andMemIid _ _ | .xorMemIid _ _
  | .orMemIid _ _ | .cpMemIid _ _ => 3
  | .ldMemNnRr _ _ | .ldRrMemNn _ _ | .ldIiNn _ _ | .ldMemNnIi _ _ | .ldIiMemNn _ _ | .ldMemIidN _ _ _ | .rlcMemIid _ _
  | .rlcMemIidR _ _ _ | .rrcMemIid _ _ | .rrcMemIidR _ _ _ | .rlMemIid _ _ | .rlMemIidR _ _ _ | .rrMemIid _ _
  | .rrMemIidR _ _ _ | .slaMemIid _ _ | .slaMemIidR _ _ _ | .sraMemIid _ _ | .sraMemIidR _ _ _ | .sllMemIid _ _
  | .sllMemIidR _ _ _ | .srlMemIid _ _ | .srlMemIidR _ _ _ | .bitBMemIid _ _ _ _ | .resBMemIid _ _ _
  | .resBMemIidR _ _ _ _ | .setBMemIid _ _ _ | .setBMemIidR _ _ _ _ => 4

/-- The bytes of an instruction, from the formats of R91 and the field tables R92 to R101 and R110 to R116. -/
def encode : Instr → List Byte
  | .ldRrNn rr nn => [opPQ 0 rr.code 0 1, loByte nn, hiByte nn]
  | .incRr rr => [opPQ 0 rr.code 0 3]
  | .decRr rr => [opPQ 0 rr.code 1 3]
  | .incR r => [opByte 0 r.code 4]
  | .decR r => [opByte 0 r.code 5]
  | .ldRN r n => [opByte 0 r.code 6, n]
  | .ldMemHlN n => [0x36, n]
  | .addHlRr rr => [opPQ 0 rr.code 1 1]
  | .djnzE e => [0x10, e]
  | .jrE e => [0x18, e]
  | .jrCcE cc e => [opByte 0 (4 + cc.code) 0, e]
  | .ldMemNnHl nn => [0x22, loByte nn, hiByte nn]
  | .ldHlMemNn nn => [0x2A, loByte nn, hiByte nn]
  | .ldMemNnA nn => [0x32, loByte nn, hiByte nn]
  | .ldAMemNn nn => [0x3A, loByte nn, hiByte nn]
  | .ldRR r r' => [opByte 1 r.code r'.code]
  | .ldRMemHl r => [opByte 1 r.code 6]
  | .ldMemHlR r => [opByte 1 6 r.code]
  | .addAR r => [opByte 2 0 r.code]
  | .addAN n => [opByte 3 0 6, n]
  | .adcAR r => [opByte 2 1 r.code]
  | .adcAN n => [opByte 3 1 6, n]
  | .subR r => [opByte 2 2 r.code]
  | .subN n => [opByte 3 2 6, n]
  | .sbcAR r => [opByte 2 3 r.code]
  | .sbcAN n => [opByte 3 3 6, n]
  | .andR r => [opByte 2 4 r.code]
  | .andN n => [opByte 3 4 6, n]
  | .xorR r => [opByte 2 5 r.code]
  | .xorN n => [opByte 3 5 6, n]
  | .orR r => [opByte 2 6 r.code]
  | .orN n => [opByte 3 6 6, n]
  | .cpR r => [opByte 2 7 r.code]
  | .cpN n => [opByte 3 7 6, n]
  | .retCc cc => [opByte 3 cc.code 0]
  | .popQq qq => [opPQ 3 qq.code 0 1]
  | .jpCcNn cc nn => [opByte 3 cc.code 2, loByte nn, hiByte nn]
  | .jpNn nn => [0xC3, loByte nn, hiByte nn]
  | .callCcNn cc nn => [opByte 3 cc.code 4, loByte nn, hiByte nn]
  | .pushQq qq => [opPQ 3 qq.code 0 5]
  | .rstP y => [opByte 3 y 7]
  | .callNn nn => [0xCD, loByte nn, hiByte nn]
  | .outMemNA n => [0xD3, n]
  | .inAMemN n => [0xDB, n]
  | .rlcR r => [0xCB, opByte 0 0 r.code]
  | .rrcR r => [0xCB, opByte 0 1 r.code]
  | .rlR r => [0xCB, opByte 0 2 r.code]
  | .rrR r => [0xCB, opByte 0 3 r.code]
  | .slaR r => [0xCB, opByte 0 4 r.code]
  | .sraR r => [0xCB, opByte 0 5 r.code]
  | .sllR r => [0xCB, opByte 0 6 r.code]
  | .srlR r => [0xCB, opByte 0 7 r.code]
  | .bitBR n r => [0xCB, opByte 1 n r.code]
  | .bitBMemHl n => [0xCB, opByte 1 n 6]
  | .resBR n r => [0xCB, opByte 2 n r.code]
  | .resBMemHl n => [0xCB, opByte 2 n 6]
  | .setBR n r => [0xCB, opByte 3 n r.code]
  | .setBMemHl n => [0xCB, opByte 3 n 6]
  | .inRMemC r => [0xED, opByte 1 r.code 0]
  | .outMemCR r => [0xED, opByte 1 r.code 1]
  | .sbcHlRr rr => [0xED, opPQ 1 rr.code 0 2]
  | .adcHlRr rr => [0xED, opPQ 1 rr.code 1 2]
  | .ldMemNnRr rr nn => [0xED, opPQ 1 rr.code 0 3, loByte nn, hiByte nn]
  | .ldRrMemNn rr nn => [0xED, opPQ 1 rr.code 1 3, loByte nn, hiByte nn]
  | .negDup y => [0xED, opByte 1 y 4]
  | .retnDup y => [0xED, opByte 1 y 5]
  | .im0Dup y => [0xED, opByte 1 y 6]
  | .unmappedEd op => [0xED, op]
  | .addIiBc ii => [ii.byte, opPQ 0 0 1 1]
  | .addIiDe ii => [ii.byte, opPQ 0 1 1 1]
  | .addIiIi ii => [ii.byte, opPQ 0 2 1 1]
  | .addIiSp ii => [ii.byte, opPQ 0 3 1 1]
  | .ldIiNn ii nn => [ii.byte, 0x21, loByte nn, hiByte nn]
  | .ldMemNnIi ii nn => [ii.byte, 0x22, loByte nn, hiByte nn]
  | .incIi ii => [ii.byte, 0x23]
  | .ldIiMemNn ii nn => [ii.byte, 0x2A, loByte nn, hiByte nn]
  | .decIi ii => [ii.byte, 0x2B]
  | .incIih ii => [ii.byte, opByte 0 4 4]
  | .decIih ii => [ii.byte, opByte 0 4 5]
  | .ldIihN ii n => [ii.byte, 0x26, n]
  | .incIil ii => [ii.byte, opByte 0 5 4]
  | .decIil ii => [ii.byte, opByte 0 5 5]
  | .ldIilN ii n => [ii.byte, 0x2E, n]
  | .incMemIid ii d => [ii.byte, opByte 0 6 4, d]
  | .decMemIid ii d => [ii.byte, opByte 0 6 5, d]
  | .ldMemIidN ii d n => [ii.byte, 0x36, d, n]
  | .ldBIih ii => [ii.byte, opByte 1 0 4]
  | .ldBIil ii => [ii.byte, opByte 1 0 5]
  | .ldBMemIid ii d => [ii.byte, opByte 1 0 6, d]
  | .ldCIih ii => [ii.byte, opByte 1 1 4]
  | .ldCIil ii => [ii.byte, opByte 1 1 5]
  | .ldCMemIid ii d => [ii.byte, opByte 1 1 6, d]
  | .ldDIih ii => [ii.byte, opByte 1 2 4]
  | .ldDIil ii => [ii.byte, opByte 1 2 5]
  | .ldDMemIid ii d => [ii.byte, opByte 1 2 6, d]
  | .ldEIih ii => [ii.byte, opByte 1 3 4]
  | .ldEIil ii => [ii.byte, opByte 1 3 5]
  | .ldEMemIid ii d => [ii.byte, opByte 1 3 6, d]
  | .ldIihB ii => [ii.byte, opByte 1 4 0]
  | .ldIihC ii => [ii.byte, opByte 1 4 1]
  | .ldIihD ii => [ii.byte, opByte 1 4 2]
  | .ldIihE ii => [ii.byte, opByte 1 4 3]
  | .ldIihIih ii => [ii.byte, opByte 1 4 4]
  | .ldIihIil ii => [ii.byte, opByte 1 4 5]
  | .ldHMemIid ii d => [ii.byte, opByte 1 4 6, d]
  | .ldIihA ii => [ii.byte, opByte 1 4 7]
  | .ldIilB ii => [ii.byte, opByte 1 5 0]
  | .ldIilC ii => [ii.byte, opByte 1 5 1]
  | .ldIilD ii => [ii.byte, opByte 1 5 2]
  | .ldIilE ii => [ii.byte, opByte 1 5 3]
  | .ldIilIih ii => [ii.byte, opByte 1 5 4]
  | .ldIilIil ii => [ii.byte, opByte 1 5 5]
  | .ldLMemIid ii d => [ii.byte, opByte 1 5 6, d]
  | .ldIilA ii => [ii.byte, opByte 1 5 7]
  | .ldMemIidB ii d => [ii.byte, opByte 1 6 0, d]
  | .ldMemIidC ii d => [ii.byte, opByte 1 6 1, d]
  | .ldMemIidD ii d => [ii.byte, opByte 1 6 2, d]
  | .ldMemIidE ii d => [ii.byte, opByte 1 6 3, d]
  | .ldMemIidH ii d => [ii.byte, opByte 1 6 4, d]
  | .ldMemIidL ii d => [ii.byte, opByte 1 6 5, d]
  | .ldMemIidA ii d => [ii.byte, opByte 1 6 7, d]
  | .ldAIih ii => [ii.byte, opByte 1 7 4]
  | .ldAIil ii => [ii.byte, opByte 1 7 5]
  | .ldAMemIid ii d => [ii.byte, opByte 1 7 6, d]
  | .addAIih ii => [ii.byte, opByte 2 0 4]
  | .addAIil ii => [ii.byte, opByte 2 0 5]
  | .addAMemIid ii d => [ii.byte, opByte 2 0 6, d]
  | .adcAIih ii => [ii.byte, opByte 2 1 4]
  | .adcAIil ii => [ii.byte, opByte 2 1 5]
  | .adcAMemIid ii d => [ii.byte, opByte 2 1 6, d]
  | .subIih ii => [ii.byte, opByte 2 2 4]
  | .subIil ii => [ii.byte, opByte 2 2 5]
  | .subMemIid ii d => [ii.byte, opByte 2 2 6, d]
  | .sbcAIih ii => [ii.byte, opByte 2 3 4]
  | .sbcAIil ii => [ii.byte, opByte 2 3 5]
  | .sbcAMemIid ii d => [ii.byte, opByte 2 3 6, d]
  | .andIih ii => [ii.byte, opByte 2 4 4]
  | .andIil ii => [ii.byte, opByte 2 4 5]
  | .andMemIid ii d => [ii.byte, opByte 2 4 6, d]
  | .xorIih ii => [ii.byte, opByte 2 5 4]
  | .xorIil ii => [ii.byte, opByte 2 5 5]
  | .xorMemIid ii d => [ii.byte, opByte 2 5 6, d]
  | .orIih ii => [ii.byte, opByte 2 6 4]
  | .orIil ii => [ii.byte, opByte 2 6 5]
  | .orMemIid ii d => [ii.byte, opByte 2 6 6, d]
  | .cpIih ii => [ii.byte, opByte 2 7 4]
  | .cpIil ii => [ii.byte, opByte 2 7 5]
  | .cpMemIid ii d => [ii.byte, opByte 2 7 6, d]
  | .popIi ii => [ii.byte, 0xE1]
  | .exMemSpIi ii => [ii.byte, 0xE3]
  | .pushIi ii => [ii.byte, 0xE5]
  | .jpIi ii => [ii.byte, 0xE9]
  | .ldSpIi ii => [ii.byte, 0xF9]
  | .lonePrefix ii => [ii.byte]
  | .rlcMemIid ii d => [ii.byte, 0xCB, d, opByte 0 0 6]
  | .rlcMemIidR ii d r => [ii.byte, 0xCB, d, opByte 0 0 r.code]
  | .rrcMemIid ii d => [ii.byte, 0xCB, d, opByte 0 1 6]
  | .rrcMemIidR ii d r => [ii.byte, 0xCB, d, opByte 0 1 r.code]
  | .rlMemIid ii d => [ii.byte, 0xCB, d, opByte 0 2 6]
  | .rlMemIidR ii d r => [ii.byte, 0xCB, d, opByte 0 2 r.code]
  | .rrMemIid ii d => [ii.byte, 0xCB, d, opByte 0 3 6]
  | .rrMemIidR ii d r => [ii.byte, 0xCB, d, opByte 0 3 r.code]
  | .slaMemIid ii d => [ii.byte, 0xCB, d, opByte 0 4 6]
  | .slaMemIidR ii d r => [ii.byte, 0xCB, d, opByte 0 4 r.code]
  | .sraMemIid ii d => [ii.byte, 0xCB, d, opByte 0 5 6]
  | .sraMemIidR ii d r => [ii.byte, 0xCB, d, opByte 0 5 r.code]
  | .sllMemIid ii d => [ii.byte, 0xCB, d, opByte 0 6 6]
  | .sllMemIidR ii d r => [ii.byte, 0xCB, d, opByte 0 6 r.code]
  | .srlMemIid ii d => [ii.byte, 0xCB, d, opByte 0 7 6]
  | .srlMemIidR ii d r => [ii.byte, 0xCB, d, opByte 0 7 r.code]
  | .bitBMemIid ii d n z => [ii.byte, 0xCB, d, opByte 1 n z]
  | .resBMemIid ii d n => [ii.byte, 0xCB, d, opByte 2 n 6]
  | .resBMemIidR ii d n r => [ii.byte, 0xCB, d, opByte 2 n r.code]
  | .setBMemIid ii d n => [ii.byte, 0xCB, d, opByte 3 n 6]
  | .setBMemIidR ii d n r => [ii.byte, 0xCB, d, opByte 3 n r.code]
  | .nop => [0x00]
  | .ldMemBcA => [0x02]
  | .ldMemDeA => [0x12]
  | .incMemHl => [opByte 0 6 4]
  | .decMemHl => [opByte 0 6 5]
  | .rlca => [0x07]
  | .rrca => [0x0F]
  | .rla => [0x17]
  | .rra => [0x1F]
  | .exAfAf => [0x08]
  | .ldAMemBc => [0x0A]
  | .ldAMemDe => [0x1A]
  | .daa => [0x27]
  | .cpl => [0x2F]
  | .scf => [0x37]
  | .ccf => [0x3F]
  | .halt => [0x76]
  | .addAMemHl => [opByte 2 0 6]
  | .adcAMemHl => [opByte 2 1 6]
  | .subMemHl => [opByte 2 2 6]
  | .sbcAMemHl => [opByte 2 3 6]
  | .andMemHl => [opByte 2 4 6]
  | .xorMemHl => [opByte 2 5 6]
  | .orMemHl => [opByte 2 6 6]
  | .cpMemHl => [opByte 2 7 6]
  | .popAf => [0xF1]
  | .ret => [0xC9]
  | .exx => [0xD9]
  | .exMemSpHl => [0xE3]
  | .jpHl => [0xE9]
  | .exDeHl => [0xEB]
  | .di => [0xF3]
  | .ldSpHl => [0xF9]
  | .ei => [0xFB]
  | .rlcMemHl => [0xCB, opByte 0 0 6]
  | .rrcMemHl => [0xCB, opByte 0 1 6]
  | .rlMemHl => [0xCB, opByte 0 2 6]
  | .rrMemHl => [0xCB, opByte 0 3 6]
  | .slaMemHl => [0xCB, opByte 0 4 6]
  | .sraMemHl => [0xCB, opByte 0 5 6]
  | .sllMemHl => [0xCB, opByte 0 6 6]
  | .srlMemHl => [0xCB, opByte 0 7 6]
  | .inMemC => [0xED, 0x70]
  | .outMemC0 => [0xED, 0x71]
  | .neg => [0xED, 0x44]
  | .retn => [0xED, 0x45]
  | .reti => [0xED, 0x4D]
  | .im0 => [0xED, 0x46]
  | .im1 => [0xED, 0x56]
  | .im1Dup => [0xED, 0x76]
  | .im2 => [0xED, 0x5E]
  | .im2Dup => [0xED, 0x7E]
  | .ldIA => [0xED, 0x47]
  | .ldRegRA => [0xED, 0x4F]
  | .ldAI => [0xED, 0x57]
  | .ldARegR => [0xED, 0x5F]
  | .rrd => [0xED, 0x67]
  | .rld => [0xED, 0x6F]
  | .ldi => [0xED, 0xA0]
  | .ldd => [0xED, 0xA8]
  | .ldir => [0xED, 0xB0]
  | .lddr => [0xED, 0xB8]
  | .cpi => [0xED, 0xA1]
  | .cpd => [0xED, 0xA9]
  | .cpir => [0xED, 0xB1]
  | .cpdr => [0xED, 0xB9]
  | .ini => [0xED, 0xA2]
  | .ind => [0xED, 0xAA]
  | .inir => [0xED, 0xB2]
  | .indr => [0xED, 0xBA]
  | .outi => [0xED, 0xA3]
  | .outd => [0xED, 0xAB]
  | .otir => [0xED, 0xB3]
  | .otdr => [0xED, 0xBB]
/-- The 86 second bytes after DD or FD that select a row, as R111 lists them; any other makes the first byte a lone one (R112). -/
def isIndexed (op : Byte) : Bool :=
  op ∈ ([0x09, 0x19, 0x29, 0x39, 0x21, 0x22, 0x2A, 0x23, 0x2B, 0xE1, 0xE5, 0xE3, 0xE9, 0xF9,
    0x24, 0x2C, 0x25, 0x2D, 0x26, 0x2E, 0x34, 0x35, 0x36, 0xCB] : List Byte) ||
  op ∈ ([0x44, 0x45, 0x4C, 0x4D, 0x54, 0x55, 0x5C, 0x5D, 0x60, 0x61, 0x62, 0x63, 0x64, 0x65, 0x67,
    0x68, 0x69, 0x6A, 0x6B, 0x6C, 0x6D, 0x6F, 0x7C, 0x7D] : List Byte) ||
  op ∈ ([0x46, 0x4E, 0x56, 0x5E, 0x66, 0x6E, 0x7E, 0x70, 0x71, 0x72, 0x73, 0x74, 0x75, 0x77] : List Byte) ||
  (fieldX op == 2 && (fieldZ op == 4 || fieldZ op == 5 || fieldZ op == 6))

/-! ### Decoding a list of bytes -/

/-- Why a list of bytes is rejected.  No byte sequence is illegal (R121): only too short a list is refused, which fetch never
gives, since it reads from the whole address space (safe). -/
inductive DecodeError where
  /-- the list ends inside the instruction, or before the byte that a DD or FD needs to be told from a lone one (R112) -/
  | truncated
deriving DecidableEq, Repr

/-- How many bytes the decoder must see to know the form: its length, and two for a lone DD or FD (R112, R118). -/
def Instr.bytesSeen (i : Instr) : Nat :=
  match i with
  | .lonePrefix _ => 2
  | i => i.length

/-- The instruction at the head of a list of bytes, and the bytes after it. -/
def decode (bs : List Byte) : Except DecodeError (Instr × List Byte) :=
  let i := decodeBytes (bs.getD 0 0) (bs.getD 1 0) (bs.getD 2 0) (bs.getD 3 0)
  if i.bytesSeen ≤ bs.length then .ok (i, bs.drop i.length) else .error .truncated

/-- Byte `k` of an instruction numbered as the opcode table numbers it: the first byte is bits 7 to 0, the bits from `nbits` up
are 0. -/
def tableByte (nbits w k : Nat) : Byte := BitVec.ofNat 8 ((w % 2 ^ nbits) / 256 ^ k)

/-- The four bytes of a table word, in address order (R65). -/
def tableBytes (nbits w : Nat) : List Byte :=
  [tableByte nbits w 0, tableByte nbits w 1, tableByte nbits w 2, tableByte nbits w 3]

/-- The instruction the decoder reads from a table word laid out in memory order. -/
def decodeTableWord (nbits w : Nat) : Option Instr :=
  match decode (tableBytes nbits w) with
  | .ok (i, _) => some i
  | .error _ => none

end Sys2Proof
end

