-- ==== Sys2Proof/Machine/Cycles.lean ====
section
/-! DEFINITION. Opcode fetches and costs of each form (spec/40_step_and_microops.md R134, R136; 70_reset_and_hazards.md R481). -/

namespace Sys2Proof.Machine

/-- `r_inc`: the opcode fetches of a form (R134): 1 for a base instruction and for the lone DD or FD byte, 2 for every other. -/
def opcodeFetches : Instr → Nat
  | .ldRrNn _ _ | .incRr _ | .decRr _ | .incR _ | .decR _ | .ldRN _ _ | .ldMemHlN _ | .addHlRr _ | .djnzE _ | .jrE _
  | .jrCcE _ _ | .ldMemNnHl _ | .ldHlMemNn _ | .ldMemNnA _ | .ldAMemNn _ | .ldRR _ _ | .ldRMemHl _ | .ldMemHlR _
  | .addAR _ | .addAN _ | .adcAR _ | .adcAN _ | .subR _ | .subN _ | .sbcAR _ | .sbcAN _ | .andR _ | .andN _ | .xorR _
  | .xorN _ | .orR _ | .orN _ | .cpR _ | .cpN _ | .retCc _ | .popQq _ | .jpCcNn _ _ | .jpNn _ | .callCcNn _ _
  | .pushQq _ | .rstP _ | .callNn _ | .outMemNA _ | .inAMemN _ | .lonePrefix _ | .nop | .ldMemBcA | .ldMemDeA
  | .incMemHl | .decMemHl | .rlca | .rrca | .rla | .rra | .exAfAf | .ldAMemBc | .ldAMemDe | .daa | .cpl | .scf | .ccf
  | .halt | .addAMemHl | .adcAMemHl | .subMemHl | .sbcAMemHl | .andMemHl | .xorMemHl | .orMemHl | .cpMemHl | .popAf
  | .ret | .exx | .exMemSpHl | .jpHl | .exDeHl | .di | .ldSpHl | .ei => 1
  | .rlcR _ | .rrcR _ | .rlR _ | .rrR _ | .slaR _ | .sraR _ | .sllR _ | .srlR _ | .bitBR _ _ | .bitBMemHl _
  | .resBR _ _ | .resBMemHl _ | .setBR _ _ | .setBMemHl _ | .inRMemC _ | .outMemCR _ | .sbcHlRr _ | .adcHlRr _
  | .ldMemNnRr _ _ | .ldRrMemNn _ _ | .negDup _ | .retnDup _ | .im0Dup _ | .unmappedEd _ | .addIiBc _ | .addIiDe _
  | .addIiIi _ | .addIiSp _ | .ldIiNn _ _ | .ldMemNnIi _ _ | .incIi _ | .ldIiMemNn _ _ | .decIi _ | .incIih _
  | .decIih _ | .ldIihN _ _ | .incIil _ | .decIil _ | .ldIilN _ _ | .incMemIid _ _ | .decMemIid _ _ | .ldMemIidN _ _ _
  | .ldBIih _ | .ldBIil _ | .ldBMemIid _ _ | .ldCIih _ | .ldCIil _ | .ldCMemIid _ _ | .ldDIih _ | .ldDIil _
  | .ldDMemIid _ _ | .ldEIih _ | .ldEIil _ | .ldEMemIid _ _ | .ldIihB _ | .ldIihC _ | .ldIihD _ | .ldIihE _
  | .ldIihIih _ | .ldIihIil _ | .ldHMemIid _ _ | .ldIihA _ | .ldIilB _ | .ldIilC _ | .ldIilD _ | .ldIilE _
  | .ldIilIih _ | .ldIilIil _ | .ldLMemIid _ _ | .ldIilA _ | .ldMemIidB _ _ | .ldMemIidC _ _ | .ldMemIidD _ _
  | .ldMemIidE _ _ | .ldMemIidH _ _ | .ldMemIidL _ _ | .ldMemIidA _ _ | .ldAIih _ | .ldAIil _ | .ldAMemIid _ _
  | .addAIih _ | .addAIil _ | .addAMemIid _ _ | .adcAIih _ | .adcAIil _ | .adcAMemIid _ _ | .subIih _ | .subIil _
  | .subMemIid _ _ | .sbcAIih _ | .sbcAIil _ | .sbcAMemIid _ _ | .andIih _ | .andIil _ | .andMemIid _ _ | .xorIih _
  | .xorIil _ | .xorMemIid _ _ | .orIih _ | .orIil _ | .orMemIid _ _ | .cpIih _ | .cpIil _ | .cpMemIid _ _ | .popIi _
  | .exMemSpIi _ | .pushIi _ | .jpIi _ | .ldSpIi _ | .rlcMemIid _ _ | .rlcMemIidR _ _ _ | .rrcMemIid _ _
  | .rrcMemIidR _ _ _ | .rlMemIid _ _ | .rlMemIidR _ _ _ | .rrMemIid _ _ | .rrMemIidR _ _ _ | .slaMemIid _ _
  | .slaMemIidR _ _ _ | .sraMemIid _ _ | .sraMemIidR _ _ _ | .sllMemIid _ _ | .sllMemIidR _ _ _ | .srlMemIid _ _
  | .srlMemIidR _ _ _ | .bitBMemIid _ _ _ _ | .resBMemIid _ _ _ | .resBMemIidR _ _ _ _ | .setBMemIid _ _ _
  | .setBMemIidR _ _ _ _ | .rlcMemHl | .rrcMemHl | .rlMemHl | .rrMemHl | .slaMemHl | .sraMemHl | .sllMemHl | .srlMemHl
  | .inMemC | .outMemC0 | .neg | .retn | .reti | .im0 | .im1 | .im1Dup | .im2 | .im2Dup | .ldIA | .ldRegRA | .ldAI
  | .ldARegR | .rrd | .rld | .ldi | .ldd | .ldir | .lddr | .cpi | .cpd | .cpir | .cpdr | .ini | .ind | .inir | .indr
  | .outi | .outd | .otir | .otdr => 2

/-- The default of `CYCLE_TABLE` (R481): the cost when the condition holds (taken, the loop continues, the block repeats) and the
cost otherwise; a fixed-cost form has one number twice. -/
def cycleTable : Instr → Nat × Nat
  | .incR _ | .decR _ | .ldRR _ _ | .addAR _ | .adcAR _ | .subR _ | .sbcAR _ | .andR _ | .xorR _ | .orR _ | .cpR _
  | .lonePrefix _ | .nop | .rlca | .rrca | .rla | .rra | .exAfAf | .daa | .cpl | .scf | .ccf | .halt | .exx | .jpHl
  | .exDeHl | .di | .ei => (4, 4)
  | .incRr _ | .decRr _ | .ldSpHl => (6, 6)
  | .ldRN _ _ | .ldRMemHl _ | .ldMemHlR _ | .addAN _ | .adcAN _ | .subN _ | .sbcAN _ | .andN _ | .xorN _ | .orN _
  | .cpN _ | .ldMemBcA | .ldMemDeA | .ldAMemBc | .ldAMemDe | .addAMemHl | .adcAMemHl | .subMemHl | .sbcAMemHl
  | .andMemHl | .xorMemHl | .orMemHl | .cpMemHl => (7, 7)
  | .rlcR _ | .rrcR _ | .rlR _ | .rrR _ | .slaR _ | .sraR _ | .sllR _ | .srlR _ | .bitBR _ _ | .resBR _ _ | .setBR _ _
  | .negDup _ | .im0Dup _ | .unmappedEd _ | .incIih _ | .decIih _ | .incIil _ | .decIil _ | .ldBIih _ | .ldBIil _
  | .ldCIih _ | .ldCIil _ | .ldDIih _ | .ldDIil _ | .ldEIih _ | .ldEIil _ | .ldIihB _ | .ldIihC _ | .ldIihD _
  | .ldIihE _ | .ldIihIih _ | .ldIihIil _ | .ldIihA _ | .ldIilB _ | .ldIilC _ | .ldIilD _ | .ldIilE _ | .ldIilIih _
  | .ldIilIil _ | .ldIilA _ | .ldAIih _ | .ldAIil _ | .addAIih _ | .addAIil _ | .adcAIih _ | .adcAIil _ | .subIih _
  | .subIil _ | .sbcAIih _ | .sbcAIil _ | .andIih _ | .andIil _ | .xorIih _ | .xorIil _ | .orIih _ | .orIil _
  | .cpIih _ | .cpIil _ | .jpIi _ | .neg | .im0 | .im1 | .im1Dup | .im2 | .im2Dup => (8, 8)
  | .ldIA | .ldRegRA | .ldAI | .ldARegR => (9, 9)
  | .ldRrNn _ _ | .ldMemHlN _ | .popQq _ | .jpCcNn _ _ | .jpNn _ | .incIi _ | .decIi _ | .ldSpIi _ | .popAf | .ret => (10, 10)
  | .retCc _ => (11, 5)
  | .addHlRr _ | .pushQq _ | .rstP _ | .outMemNA _ | .inAMemN _ | .ldIihN _ _ | .ldIilN _ _ | .incMemHl | .decMemHl => (11, 11)
  | .jrCcE _ _ => (12, 7)
  | .jrE _ | .bitBMemHl _ | .inRMemC _ | .outMemCR _ | .inMemC | .outMemC0 => (12, 12)
  | .djnzE _ => (13, 8)
  | .ldMemNnA _ | .ldAMemNn _ => (13, 13)
  | .retnDup _ | .ldIiNn _ _ | .popIi _ | .retn | .reti => (14, 14)
  | .resBMemHl _ | .setBMemHl _ | .sbcHlRr _ | .adcHlRr _ | .addIiBc _ | .addIiDe _ | .addIiIi _ | .addIiSp _
  | .pushIi _ | .rlcMemHl | .rrcMemHl | .rlMemHl | .rrMemHl | .slaMemHl | .sraMemHl | .sllMemHl | .srlMemHl => (15, 15)
  | .ldMemNnHl _ | .ldHlMemNn _ | .ldi | .ldd | .cpi | .cpd | .ini | .ind | .outi | .outd => (16, 16)
  | .callCcNn _ _ => (17, 10)
  | .callNn _ => (17, 17)
  | .rrd | .rld => (18, 18)
  | .ldMemIidN _ _ _ | .ldBMemIid _ _ | .ldCMemIid _ _ | .ldDMemIid _ _ | .ldEMemIid _ _ | .ldHMemIid _ _
  | .ldLMemIid _ _ | .ldMemIidB _ _ | .ldMemIidC _ _ | .ldMemIidD _ _ | .ldMemIidE _ _ | .ldMemIidH _ _
  | .ldMemIidL _ _ | .ldMemIidA _ _ | .ldAMemIid _ _ | .addAMemIid _ _ | .adcAMemIid _ _ | .subMemIid _ _
  | .sbcAMemIid _ _ | .andMemIid _ _ | .xorMemIid _ _ | .orMemIid _ _ | .cpMemIid _ _ | .exMemSpHl => (19, 19)
  | .ldMemNnRr _ _ | .ldRrMemNn _ _ | .ldMemNnIi _ _ | .ldIiMemNn _ _ | .bitBMemIid _ _ _ _ => (20, 20)
  | .ldir | .lddr | .cpir | .cpdr | .inir | .indr | .otir | .otdr => (21, 16)
  | .incMemIid _ _ | .decMemIid _ _ | .exMemSpIi _ | .rlcMemIid _ _ | .rlcMemIidR _ _ _ | .rrcMemIid _ _
  | .rrcMemIidR _ _ _ | .rlMemIid _ _ | .rlMemIidR _ _ _ | .rrMemIid _ _ | .rrMemIidR _ _ _ | .slaMemIid _ _
  | .slaMemIidR _ _ _ | .sraMemIid _ _ | .sraMemIidR _ _ _ | .sllMemIid _ _ | .sllMemIidR _ _ _ | .srlMemIid _ _
  | .srlMemIidR _ _ _ | .resBMemIid _ _ _ | .resBMemIidR _ _ _ _ | .setBMemIid _ _ _ | .setBMemIidR _ _ _ _ => (23, 23)

/-- The form of an instruction: its row of spec/opcode_table.json, numbered from 0 in the table's order (00_scope.md R18).  A repeated
mnemonic has a row for each register, pair or duplicate byte. -/
def opcodeRow : Instr → Nat
  | .nop => 0 | .ldRrNn _ _ => 1 | .ldMemBcA => 2 | .ldMemDeA => 3 | .incRr _ => 4 | .decRr _ => 5 | .incR _ => 6
  | .incMemHl => 7 | .decR _ => 8 | .decMemHl => 9 | .ldRN _ _ => 10 | .ldMemHlN _ => 11 | .rlca => 12 | .rrca => 13
  | .rla => 14 | .rra => 15 | .exAfAf => 16 | .addHlRr _ => 17 | .ldAMemBc => 18 | .ldAMemDe => 19 | .djnzE _ => 20
  | .jrE _ => 21 | .jrCcE _ _ => 22 | .ldMemNnHl _ => 23 | .ldHlMemNn _ => 24 | .ldMemNnA _ => 25 | .ldAMemNn _ => 26
  | .daa => 27 | .cpl => 28 | .scf => 29 | .ccf => 30 | .ldRR _ _ => 31 | .ldRMemHl _ => 32 | .ldMemHlR _ => 33
  | .halt => 34 | .addAR _ => 35 | .addAMemHl => 36 | .addAN _ => 37 | .adcAR _ => 38 | .adcAMemHl => 39 | .adcAN _ => 40
  | .subR _ => 41 | .subMemHl => 42 | .subN _ => 43 | .sbcAR _ => 44 | .sbcAMemHl => 45 | .sbcAN _ => 46 | .andR _ => 47
  | .andMemHl => 48 | .andN _ => 49 | .xorR _ => 50 | .xorMemHl => 51 | .xorN _ => 52 | .orR _ => 53 | .orMemHl => 54
  | .orN _ => 55 | .cpR _ => 56 | .cpMemHl => 57 | .cpN _ => 58 | .retCc _ => 59 | .popQq _ => 60 | .popAf => 61
  | .jpCcNn _ _ => 62 | .jpNn _ => 63 | .callCcNn _ _ => 64 | .pushQq _ => 65 | .rstP _ => 66 | .ret => 67 | .callNn _ => 68
  | .outMemNA _ => 69 | .exx => 70 | .inAMemN _ => 71 | .exMemSpHl => 72 | .jpHl => 73 | .exDeHl => 74 | .di => 75
  | .ldSpHl => 76 | .ei => 77 | .rlcR _ => 78 | .rlcMemHl => 79 | .rrcR _ => 80 | .rrcMemHl => 81 | .rlR _ => 82
  | .rlMemHl => 83 | .rrR _ => 84 | .rrMemHl => 85 | .slaR _ => 86 | .slaMemHl => 87 | .sraR _ => 88 | .sraMemHl => 89
  | .sllR _ => 90 | .sllMemHl => 91 | .srlR _ => 92 | .srlMemHl => 93 | .bitBR _ _ => 94 | .bitBMemHl _ => 95
  | .resBR _ _ => 96 | .resBMemHl _ => 97 | .setBR _ _ => 98 | .setBMemHl _ => 99
  | .inRMemC r => 100 + 2 * min r.code.toNat 6 | .outMemCR r => 101 + 2 * min r.code.toNat 6 | .inMemC => 114
  | .outMemC0 => 115 | .sbcHlRr rr => 116 + 4 * rr.code.toNat | .adcHlRr rr => 117 + 4 * rr.code.toNat
  | .ldMemNnRr rr _ => 118 + 4 * rr.code.toNat | .ldRrMemNn rr _ => 119 + 4 * rr.code.toNat | .neg => 132
  | .negDup y => 132 + y.toNat | .retn => 140 | .retnDup y => 139 + y.toNat | .reti => 147 | .im0 => 148
  | .im0Dup y => if y == 1 then 149 else if y == 4 then 150 else 151 | .im1 => 152 | .im1Dup => 153 | .im2 => 154
  | .im2Dup => 155 | .ldIA => 156 | .ldRegRA => 157 | .ldAI => 158 | .ldARegR => 159 | .rrd => 160 | .rld => 161
  | .ldi => 162 | .ldd => 163 | .ldir => 164 | .lddr => 165 | .cpi => 166 | .cpd => 167 | .cpir => 168 | .cpdr => 169
  | .ini => 170 | .ind => 171 | .inir => 172 | .indr => 173 | .outi => 174 | .outd => 175 | .otir => 176 | .otdr => 177
  | .unmappedEd _ => 178 | .addIiBc _ => 179 | .addIiDe _ => 180 | .addIiIi _ => 181 | .addIiSp _ => 182
  | .ldIiNn _ _ => 183 | .ldMemNnIi _ _ => 184 | .incIi _ => 185 | .ldIiMemNn _ _ => 186 | .decIi _ => 187
  | .incIih _ => 188 | .decIih _ => 189 | .ldIihN _ _ => 190 | .incIil _ => 191 | .decIil _ => 192 | .ldIilN _ _ => 193
  | .incMemIid _ _ => 194 | .decMemIid _ _ => 195 | .ldMemIidN _ _ _ => 196 | .ldBIih _ => 197 | .ldBIil _ => 198
  | .ldBMemIid _ _ => 199 | .ldCIih _ => 200 | .ldCIil _ => 201 | .ldCMemIid _ _ => 202 | .ldDIih _ => 203
  | .ldDIil _ => 204 | .ldDMemIid _ _ => 205 | .ldEIih _ => 206 | .ldEIil _ => 207 | .ldEMemIid _ _ => 208
  | .ldIihB _ => 209 | .ldIihC _ => 210 | .ldIihD _ => 211 | .ldIihE _ => 212 | .ldIihIih _ => 213 | .ldIihIil _ => 214
  | .ldHMemIid _ _ => 215 | .ldIihA _ => 216 | .ldIilB _ => 217 | .ldIilC _ => 218 | .ldIilD _ => 219 | .ldIilE _ => 220
  | .ldIilIih _ => 221 | .ldIilIil _ => 222 | .ldLMemIid _ _ => 223 | .ldIilA _ => 224 | .ldMemIidB _ _ => 225
  | .ldMemIidC _ _ => 226 | .ldMemIidD _ _ => 227 | .ldMemIidE _ _ => 228 | .ldMemIidH _ _ => 229 | .ldMemIidL _ _ => 230
  | .ldMemIidA _ _ => 231 | .ldAIih _ => 232 | .ldAIil _ => 233 | .ldAMemIid _ _ => 234 | .addAIih _ => 235
  | .addAIil _ => 236 | .addAMemIid _ _ => 237 | .adcAIih _ => 238 | .adcAIil _ => 239 | .adcAMemIid _ _ => 240
  | .subIih _ => 241 | .subIil _ => 242 | .subMemIid _ _ => 243 | .sbcAIih _ => 244 | .sbcAIil _ => 245
  | .sbcAMemIid _ _ => 246 | .andIih _ => 247 | .andIil _ => 248 | .andMemIid _ _ => 249 | .xorIih _ => 250
  | .xorIil _ => 251 | .xorMemIid _ _ => 252 | .orIih _ => 253 | .orIil _ => 254 | .orMemIid _ _ => 255 | .cpIih _ => 256
  | .cpIil _ => 257 | .cpMemIid _ _ => 258 | .popIi _ => 259 | .exMemSpIi _ => 260 | .pushIi _ => 261 | .jpIi _ => 262
  | .ldSpIi _ => 263 | .lonePrefix _ => 264 | .rlcMemIid _ _ => 265 | .rlcMemIidR _ _ _ => 266 | .rrcMemIid _ _ => 267
  | .rrcMemIidR _ _ _ => 268 | .rlMemIid _ _ => 269 | .rlMemIidR _ _ _ => 270 | .rrMemIid _ _ => 271
  | .rrMemIidR _ _ _ => 272 | .slaMemIid _ _ => 273 | .slaMemIidR _ _ _ => 274 | .sraMemIid _ _ => 275
  | .sraMemIidR _ _ _ => 276 | .sllMemIid _ _ => 277 | .sllMemIidR _ _ _ => 278 | .srlMemIid _ _ => 279
  | .srlMemIidR _ _ _ => 280 | .bitBMemIid _ _ _ _ => 281 | .resBMemIid _ _ _ => 282 | .resBMemIidR _ _ _ _ => 283
  | .setBMemIid _ _ _ => 284 | .setBMemIidR _ _ _ _ => 285

/-- The costs of a key under a `CYCLE_TABLE`: its first entry, else the default given. -/
def tableEntry : CycleTable → CostKey → Nat × Nat → Nat × Nat
  | [], _, default => default
  | (k, c) :: rest, key, default => if k = key then c else tableEntry rest key default

/-- `Cost(form, taken)` (R136) under a `CYCLE_TABLE` (R8, R481). -/
def cost (table : CycleTable) (i : Instr) (taken : Bool) : Nat :=
  let c := tableEntry table (.form (opcodeRow i)) (cycleTable i)
  if taken then c.1 else c.2

/-- The cost of NMI acceptance, 11 by default (60_exceptions.md R439, D14). -/
def nmiCost (table : CycleTable) : Nat := (tableEntry table .nmi (11, 11)).1
/-- The cost of acceptance in modes 0 and 1, 13 by default (R445, D14). -/
def mode1Cost (table : CycleTable) : Nat := (tableEntry table .mode01 (13, 13)).1
/-- The cost of acceptance in mode 2, 19 by default (R444, D14). -/
def mode2Cost (table : CycleTable) : Nat := (tableEntry table .mode2 (19, 19)).1
/-- The cost of a halted step that accepts no interrupt, 4 by default (R132, D14). -/
def haltCost (table : CycleTable) : Nat := (tableEntry table .haltedStep (4, 4)).1

end Sys2Proof.Machine
end

