-- ==== Sys2Proof/Machine/Flags.lean ====
section
/-! DEFINITION. The flag byte F (spec/10_state.md R24, R25) and every result and flag computation of the spec as functions of values
(spec/40_step_and_microops.md R141 to R151; the family rules for DAA, CPL, CCF, SCF and the block instructions).  A `…Flags` function
takes the old F and changes the flags its rule lists; bits Y and X are written apart, by `xyValue` (00_scope.md R15). -/

namespace Sys2Proof.Machine

/-- F, held as its eight bits S Z Y H X PV N C, bit 7 down to bit 0 (R24; log entry 1). -/
structure Flags where
  s : Bool
  z : Bool
  y : Bool
  h : Bool
  x : Bool
  pv : Bool
  n : Bool
  c : Bool
deriving DecidableEq, Repr

/-- The byte F (R24, R25). -/
def Flags.toByte (f : Flags) : Byte :=
  BitVec.ofBool f.s ++ BitVec.ofBool f.z ++ BitVec.ofBool f.y ++ BitVec.ofBool f.h ++
    BitVec.ofBool f.x ++ BitVec.ofBool f.pv ++ BitVec.ofBool f.n ++ BitVec.ofBool f.c

/-- F from a byte, all eight bits (R25, R214). -/
def Flags.ofByte (v : Byte) : Flags :=
  { s := v.getLsbD 7, z := v.getLsbD 6, y := v.getLsbD 5, h := v.getLsbD 4, x := v.getLsbD 3, pv := v.getLsbD 2, n := v.getLsbD 1,
    c := v.getLsbD 0 }

/-- F = 0x00, the reset value (R44). -/
def Flags.zero : Flags :=
  { s := false, z := false, y := false, h := false, x := false, pv := false, n := false, c := false }

/-- `cond(cc)` (30_encoding.md R99). -/
def Flags.holds (f : Flags) : Cond → Bool
  | .nz => !f.z
  | .z => f.z
  | .nc => !f.c
  | .c => f.c
  | .po => !f.pv
  | .pe => f.pv
  | .p => !f.s
  | .m => f.s

/-! ### Bits Y and X -/

/-- The source of Y and X that a rule names (R15): two bits for silicon, or drawn under every mode. -/
inductive XySource where
  /-- under silicon, Y and X are these -/
  | bits (y x : Bool)
  /-- `XY(draw)` -/
  | drawn
deriving DecidableEq, Repr

/-- `XY(v)`: bits 5 and 3 of a byte (R15). -/
def XySource.ofByte (v : Byte) : XySource := .bits (v.getLsbD 5) (v.getLsbD 3)

/-- The source of the block move and compare instructions: bits 1 and 3 of a byte (R236, R241). -/
def XySource.ofNibble (v : Byte) : XySource := .bits (v.getLsbD 1) (v.getLsbD 3)

/-- The new (Y, X) under a mode, the old F and the index of the next free draw (R15, D2). -/
def xyValue (mode : XYMode) (src : XySource) (old : Flags) (n : Nat) : Bool × Bool :=
  match src, mode with
  | .drawn, _ => (Config.drawBit n, Config.drawBit (n + 1))
  | .bits _ _, .draw => (Config.drawBit n, Config.drawBit (n + 1))
  | .bits _ _, .preserve => (old.y, old.x)
  | .bits y x, .silicon => (y, x)

/-! ### Values -/

/-- `sext_16(v)` (R11). -/
def sext16 (v : Byte) : Word := v.signExtend 16

/-- The low four bits as a number. -/
def lowNibble (v : Byte) : Nat := v.toNat % 16

/-- The low twelve bits as a number. -/
def low12 (v : Word) : Nat := v.toNat % 4096

/-- How many bits of a byte are set. -/
def popCount (v : Byte) : Nat := ((List.range 8).filter (fun i => v.getLsbD i)).length

/-- `parity(v)`: 1 when the number of set bits is even (R11). -/
def parity (v : Byte) : Bool := popCount v % 2 == 0

/-! ### 8-bit arithmetic (R141, R142) -/

/-- The exact sum of R141. -/
def sum8 (a b : Byte) (cin : Bool) : Nat := a.toNat + b.toNat + cin.toNat

/-- The result of `Add8` (R141). -/
def add8 (a b : Byte) (cin : Bool) : Byte := BitVec.ofNat 8 (sum8 a b cin)

/-- The flags of `Add8` (R141). -/
def add8Flags (f : Flags) (a b : Byte) (cin : Bool) : Flags :=
  { f with
    s := (add8 a b cin).msb
    z := add8 a b cin == 0
    h := decide (lowNibble a + lowNibble b + cin.toNat > 0xF)
    pv := ((a ^^^ add8 a b cin) &&& (b ^^^ add8 a b cin)).msb
    n := false
    c := decide (sum8 a b cin > 0xFF) }

/-- The exact difference of R142. -/
def diff8 (a b : Byte) (cin : Bool) : Int := (a.toNat : Int) - (b.toNat : Int) - (cin.toNat : Int)

/-- The result of `Sub8` (R142). -/
def sub8 (a b : Byte) (cin : Bool) : Byte := BitVec.ofInt 8 (diff8 a b cin)

/-- The flags of `Sub8` (R142, D3). -/
def sub8Flags (f : Flags) (a b : Byte) (cin : Bool) : Flags :=
  { f with
    s := (sub8 a b cin).msb
    z := sub8 a b cin == 0
    h := decide ((lowNibble a : Int) - (lowNibble b : Int) - (cin.toNat : Int) < 0)
    pv := ((a ^^^ b) &&& (a ^^^ sub8 a b cin)).msb
    n := true
    c := decide (diff8 a b cin < 0) }

/-- The operations of `Logic` (R143). -/
inductive LogicOp where
  | and | xor | or
deriving DecidableEq, Repr

/-- The result of `Logic` (R143). -/
def logic8 : LogicOp → Byte → Byte → Byte
  | .and, a, b => a &&& b
  | .xor, a, b => a ^^^ b
  | .or, a, b => a ||| b

/-- The flags of `Logic` (R143). -/
def logic8Flags (f : Flags) (op : LogicOp) (a b : Byte) : Flags :=
  { f with
    s := (logic8 op a b).msb
    z := logic8 op a b == 0
    h := op == .and
    pv := parity (logic8 op a b)
    n := false
    c := false }

/-- The result of `Inc8` (R144). -/
def inc8 (v : Byte) : Byte := v + 1

/-- The flags of `Inc8`; C is kept (R144). -/
def inc8Flags (f : Flags) (v : Byte) : Flags :=
  { f with s := (inc8 v).msb, z := inc8 v == 0, h := lowNibble v == 0xF, pv := v == 0x7F, n := false }

/-- The result of `Dec8` (R144). -/
def dec8 (v : Byte) : Byte := v - 1

/-- The flags of `Dec8`; C is kept (R144, D4). -/
def dec8Flags (f : Flags) (v : Byte) : Flags :=
  { f with s := (dec8 v).msb, z := dec8 v == 0, h := lowNibble v == 0x0, pv := v == 0x80, n := true }

/-! ### The accumulator adjustments (43_arith8.md R278 to R282) -/

/-- The correction of DAA (R278). -/
def daaCorrection (f : Flags) (a : Byte) : Byte :=
  (if f.h || decide (lowNibble a > 9) then 0x06 else 0x00) ||| (if f.c || decide (a.toNat > 0x99) then 0x60 else 0x00)

/-- The result of DAA (R278). -/
def daa (f : Flags) (a : Byte) : Byte :=
  if f.n then a - daaCorrection f a else a + daaCorrection f a

/-- The flags of DAA; N is kept (R278). -/
def daaFlags (f : Flags) (a : Byte) : Flags :=
  { f with
    s := (daa f a).msb
    z := daa f a == 0
    h := if f.n then f.h && decide (lowNibble a < 6) else decide (lowNibble a > 9)
    pv := parity (daa f a)
    c := f.c || decide (a.toNat > 0x99) }

/-- The flags of CPL (R279). -/
def cplFlags (f : Flags) : Flags := { f with h := true, n := true }

/-- The flags of CCF: H takes the old C (R281). -/
def ccfFlags (f : Flags) : Flags := { f with h := f.c, n := false, c := !f.c }

/-- The flags of SCF (R282). -/
def scfFlags (f : Flags) : Flags := { f with h := false, n := false, c := true }

/-! ### Rotates, shifts and bits (R147, R148) -/

/-- The operations of `rot[y]` (30_encoding.md R101). -/
inductive RotOp where
  | rlc | rrc | rl | rr | sla | sra | sll | srl
deriving DecidableEq, Repr

/-- A bit placed at bit 0. -/
def bit0 (b : Bool) : Byte := if b then 0x01 else 0x00

/-- A bit placed at bit 7. -/
def bit7 (b : Bool) : Byte := if b then 0x80 else 0x00

/-- The result of `Rot`, from the operand and the old carry (R147). -/
def rot : RotOp → Byte → Bool → Byte
  | .rlc, v, _ => (v <<< 1) ||| bit0 (v.getLsbD 7)
  | .rrc, v, _ => (v >>> 1) ||| bit7 (v.getLsbD 0)
  | .rl, v, c => (v <<< 1) ||| bit0 c
  | .rr, v, c => (v >>> 1) ||| bit7 c
  | .sla, v, _ => v <<< 1
  | .sra, v, _ => (v >>> 1) ||| (v &&& 0x80)
  | .sll, v, _ => (v <<< 1) ||| 0x01
  | .srl, v, _ => v >>> 1

/-- The lost bit of `Rot` (R147). -/
def rotLost : RotOp → Byte → Bool
  | .rlc, v | .rl, v | .sla, v | .sll, v => v.getLsbD 7
  | .rrc, v | .rr, v | .sra, v | .srl, v => v.getLsbD 0

/-- The flags of `Rot` (R147). -/
def rotFlags (f : Flags) (op : RotOp) (v : Byte) : Flags :=
  { f with
    s := (rot op v f.c).msb
    z := rot op v f.c == 0
    h := false
    pv := parity (rot op v f.c)
    n := false
    c := rotLost op v }

/-- The flags of RLCA, RRCA, RLA, RRA: S, Z and PV are kept (R321 to R324). -/
def rotateAFlags (f : Flags) (op : RotOp) (v : Byte) : Flags :=
  { f with h := false, n := false, c := rotLost op v }

/-- The flags of RLD and RRD, and of IN r,(C): S, Z, PV from a byte, H = N = 0, C kept (R334, R335, R413). -/
def byteFlags (f : Flags) (v : Byte) : Flags :=
  { f with s := v.msb, z := v == 0, h := false, pv := parity v, n := false }

/-- The flags of LD A,I and LD A,R: PV takes IFF2 (47_cpu_control_io.md R406). -/
def specialFlags (f : Flags) (v : Byte) (iff2 : Bool) : Flags :=
  { f with s := v.msb, z := v == 0, h := false, pv := iff2, n := false }

/-- The flags of `BitTest`; C is kept (R148). -/
def bitTestFlags (f : Flags) (n : BitVec 3) (v : Byte) : Flags :=
  { f with
    s := n == 7 && v.getLsbD 7
    z := !v.getLsbD n.toNat
    h := true
    pv := !v.getLsbD n.toNat
    n := false }

/-- `Res(b, v)` (R148). -/
def resBit (n : BitVec 3) (v : Byte) : Byte := v &&& ~~~((1 : Byte) <<< n.toNat)

/-- `Set(b, v)` (R148). -/
def setBit (n : BitVec 3) (v : Byte) : Byte := v ||| ((1 : Byte) <<< n.toNat)

/-! ### 16-bit arithmetic (R149 to R151) -/

/-- The flags of `Add16`; S, Z and PV are kept (R149). -/
def add16Flags (f : Flags) (a b : Word) : Flags :=
  { f with
    h := decide (low12 a + low12 b > 0xFFF)
    n := false
    c := decide (a.toNat + b.toNat > 0xFFFF) }

/-- The exact sum of R150. -/
def sum16 (a b : Word) (cin : Bool) : Nat := a.toNat + b.toNat + cin.toNat

/-- The result of `Adc16` (R150). -/
def adc16 (a b : Word) (cin : Bool) : Word := BitVec.ofNat 16 (sum16 a b cin)

/-- The flags of `Adc16` (R150). -/
def adc16Flags (f : Flags) (a b : Word) (cin : Bool) : Flags :=
  { f with
    s := (adc16 a b cin).msb
    z := adc16 a b cin == 0
    h := decide (low12 a + low12 b + cin.toNat > 0xFFF)
    pv := ((a ^^^ adc16 a b cin) &&& (b ^^^ adc16 a b cin)).msb
    n := false
    c := decide (sum16 a b cin > 0xFFFF) }

/-- The exact difference of R151. -/
def diff16 (a b : Word) (cin : Bool) : Int := (a.toNat : Int) - (b.toNat : Int) - (cin.toNat : Int)

/-- The result of `Sbc16` (R151). -/
def sbc16 (a b : Word) (cin : Bool) : Word := BitVec.ofInt 16 (diff16 a b cin)

/-- The flags of `Sbc16` (R151, D3). -/
def sbc16Flags (f : Flags) (a b : Word) (cin : Bool) : Flags :=
  { f with
    s := (sbc16 a b cin).msb
    z := sbc16 a b cin == 0
    h := decide ((low12 a : Int) - (low12 b : Int) - (cin.toNat : Int) < 0)
    pv := ((a ^^^ b) &&& (a ^^^ sbc16 a b cin)).msb
    n := true
    c := decide (diff16 a b cin < 0) }

/-! ### Block instructions -/

/-- The flags of the block moves; `bc` is BC after the decrement; S, Z, C are kept (R236). -/
def moveFlags (f : Flags) (bc : Word) : Flags := { f with h := false, pv := bc != 0, n := false }

/-- The flags of the block compares: `bc` is BC after the decrement; C is kept (R241). -/
def compareFlags (f : Flags) (a v : Byte) (bc : Word) : Flags :=
  { f with
    s := (a - v).msb
    z := a - v == 0
    h := decide (lowNibble a < lowNibble v)
    pv := bc != 0
    n := true }

/-- The byte whose bits 1 and 3 a block compare gives Y and X under silicon: A - v - H, H the new half-carry (R241). -/
def compareXyByte (a v : Byte) : Byte := a - v - bit0 (decide (lowNibble a < lowNibble v))

/-- The flags of the block I/O instructions: S, H, PV drawn; `b` is B after the decrement; C is kept (R417, D13). -/
def blockIoFlags (f : Flags) (b : Byte) (s h pv : Bool) : Flags :=
  { f with s := s, z := b == 0, h := h, pv := pv, n := true }

end Sys2Proof.Machine
end

