-- ==== Sys2Proof/Machine/State.lean ====
section
/-! DEFINITION. The state of the machine (spec/10_state.md R21 to R40, R44), its faults and refusals, and the state after reset. -/

namespace Sys2Proof.Machine

/-- `int_block` (R40). -/
inductive IntBlock where
  | none
  /-- set by EI: no maskable interrupt at this boundary when `EI_DELAY` holds -/
  | afterEI
  /-- set by a lone DD or FD: no interrupt at this boundary -/
  | afterPrefix
deriving DecidableEq, Repr

/-- An event of the diagnostic output (47_cpu_control_io.md R429, 60_exceptions.md R431). -/
inductive DiagEvent where
  /-- the address of the ED byte and the two bytes (R428) -/
  | unknownOpcode (pc : Word) (b0 b1 : Byte)
  /-- maskable acceptance with IM outside 0 to 2 (R446) -/
  | invalidInterruptMode (im : BitVec 2)
  /-- a memory access that failed, with its address (R431, R432; 92_eei_decisions.md D28; log entry 17) -/
  | memFault (addr : Word)
deriving DecidableEq, Repr

/-- Everything the spec gives the machine: the core's record (R21), the memory, the I/O history and the diagnostic output beside it,
and the model's own `params` and `draws`. -/
structure State where
  /-- main set (R22) -/
  a : Byte
  f : Flags
  b : Byte
  c : Byte
  d : Byte
  e : Byte
  h : Byte
  l : Byte
  /-- shadow set (R23) -/
  aAlt : Byte
  fAlt : Flags
  bAlt : Byte
  cAlt : Byte
  dAlt : Byte
  eAlt : Byte
  hAlt : Byte
  lAlt : Byte
  /-- index registers (R27, R28) -/
  ix : Word
  iy : Word
  /-- stack pointer (R29) -/
  sp : Word
  /-- program counter (R30) -/
  pc : Word
  /-- interrupt-vector base (R31) -/
  i : Byte
  /-- memory-refresh counter (R32) -/
  r : Byte
  /-- interrupt-enable flip-flops (R33) -/
  iff1 : Bool
  iff2 : Bool
  /-- interrupt mode (R34); the value 3 is handled as R446 says (log entry 8) -/
  im : BitVec 2
  /-- halted (R36) -/
  halted : Bool
  /-- T-states, modulo 2^64 (R37) -/
  cycles : BitVec 64
  /-- pending maskable interrupt (R38) -/
  intPending : Bool
  /-- pending NMI (R39) -/
  nmiPending : Bool
  /-- boundary latch (R40) -/
  intBlock : IntBlock
  /-- the 64 KiB memory (20_memory.md R61) -/
  mem : Memory
  /-- the history of I/O events, oldest first (20_memory.md R71, R73) -/
  io : List IoEvent
  /-- the diagnostic output, oldest first (R429) -/
  diag : List DiagEvent
  /-- the MODEL's own: the parameters of the run (00_scope.md R8; log entry 2) -/
  params : Params
  /-- the MODEL's own: the index of the next free draw (log entry 3) -/
  draws : Nat
deriving DecidableEq, Repr

/-- The machine right after reset (R44): every register, flag, flip-flop and counter 0; memory lists nothing; the traces are empty;
the parameters have the defaults of 00_scope.md R8. -/
def State.reset : State :=
  { a := 0, f := Flags.zero, b := 0, c := 0, d := 0, e := 0, h := 0, l := 0
    aAlt := 0, fAlt := Flags.zero, bAlt := 0, cAlt := 0, dAlt := 0, eAlt := 0, hAlt := 0, lAlt := 0
    ix := 0, iy := 0, sp := 0, pc := 0, i := 0, r := 0
    iff1 := false, iff2 := false, im := 0, halted := false, cycles := 0
    intPending := false, nmiPending := false, intBlock := .none
    mem := [], io := [], diag := [], params := Params.default, draws := 0 }

/-- Why a step stops for good. -/
inductive Fault where
  /-- Raised by a memory access, only when `MEM_FAULT` is true (20_memory.md R68, 60_exceptions.md R432): the address, and the state
  the partial step leaves, the event `memFault` last in its diagnostic output.  SAFE: the spec ends the step there and defines no further step. -/
  | memFault (addr : Word) (left : State)
deriving DecidableEq, Repr

/-- Why an instruction has no meaning. -/
inductive Refusal where
  /-- Raised by an arm of `exec` whose instruction has no meaning in this model; no arm of this model raises it.  SAFE. -/
  | notModelled (mnemonic : String)
deriving DecidableEq, Repr

/-- What an instruction or a step answers. -/
abbrev Result := Host.Outcome State Fault Refusal

end Sys2Proof.Machine
end

