-- ==== Sys2Proof/Machine/Ops.lean ====
section
/-! DEFINITION. The named operations over registers, memory, the stack and the I/O trace, taking an interrupt and returning from one
(spec/20_memory.md R62 to R73; 40_step_and_microops.md R134 to R146; 60_exceptions.md R439 to R446; 46_control.md R381, R382).
An operation that touches memory takes what follows it as an argument, so that a memory fault ends the step at that access. -/

namespace Sys2Proof.Machine

/-- Go on from an answer: a next state is continued, a fault or a refusal stands. -/
def andThen (o : Result) (k : State → Result) : Result :=
  match o with
  | .next s => k s
  | .fault r => .fault r
  | .refused r => .refused r

/-! ### Registers (10_state.md R22, R27; R138, R140) -/

/-- BC = B:C. -/
def State.bc (s : State) : Word := joinBytes s.b s.c
/-- DE = D:E. -/
def State.de (s : State) : Word := joinBytes s.d s.e
/-- HL = H:L. -/
def State.hl (s : State) : Word := joinBytes s.h s.l

/-- `Get8` of a register code (R138). -/
def State.get8 (s : State) : Reg8 → Byte
  | .b => s.b
  | .c => s.c
  | .d => s.d
  | .e => s.e
  | .h => s.h
  | .l => s.l
  | .a => s.a

/-- `Set8` of a register code (R138). -/
def State.set8 (s : State) (r : Reg8) (v : Byte) : State :=
  match r with
  | .b => { s with b := v }
  | .c => { s with c := v }
  | .d => { s with d := v }
  | .e => { s with e := v }
  | .h => { s with h := v }
  | .l => { s with l := v }
  | .a => { s with a := v }

/-- `Get16` of `rp` (R140, 30_encoding.md R97). -/
def State.get16 (s : State) : Pair → Word
  | .bc => s.bc
  | .de => s.de
  | .hl => s.hl
  | .sp => s.sp

/-- `Set16` of `rp`: the high byte to the first-named register (R140). -/
def State.set16 (s : State) (p : Pair) (v : Word) : State :=
  match p with
  | .bc => { s with b := hiByte v, c := loByte v }
  | .de => { s with d := hiByte v, e := loByte v }
  | .hl => { s with h := hiByte v, l := loByte v }
  | .sp => { s with sp := v }

/-- `Get16` of `rp2`: AF = A:F (R140, 30_encoding.md R98). -/
def State.getQQ (s : State) : StackPair → Word
  | .bc => s.bc
  | .de => s.de
  | .hl => s.hl
  | .af => joinBytes s.a s.f.toByte

/-- `Set16` of `rp2`: for AF, all eight bits of F (R140, R214). -/
def State.setQQ (s : State) (q : StackPair) (v : Word) : State :=
  match q with
  | .bc => { s with b := hiByte v, c := loByte v }
  | .de => { s with d := hiByte v, e := loByte v }
  | .hl => { s with h := hiByte v, l := loByte v }
  | .af => { s with a := hiByte v, f := Flags.ofByte (loByte v) }

/-- IX or IY (30_encoding.md R110). -/
def State.idx (s : State) : Idx → Word
  | .ix => s.ix
  | .iy => s.iy

/-- Write IX or IY. -/
def State.setIdx (s : State) (ii : Idx) (v : Word) : State :=
  match ii with
  | .ix => { s with ix := v }
  | .iy => { s with iy := v }

/-- `iiH` (R27). -/
def State.idxHi (s : State) (ii : Idx) : Byte := hiByte (s.idx ii)
/-- `iiL` (R27). -/
def State.idxLo (s : State) (ii : Idx) : Byte := loByte (s.idx ii)

/-- Write `iiH`; the other half is unchanged (R27). -/
def State.setIdxHi (s : State) (ii : Idx) (v : Byte) : State := s.setIdx ii (joinBytes v (s.idxLo ii))
/-- Write `iiL`; the other half is unchanged (R27). -/
def State.setIdxLo (s : State) (ii : Idx) (v : Byte) : State := s.setIdx ii (joinBytes (s.idxHi ii) v)

/-- `EA = ii + sext_16(d)` (R139). -/
def State.ea (s : State) (ii : Idx) (d : Byte) : Word := s.idx ii + sext16 d

/-- Whether a condition holds (30_encoding.md R99). -/
def State.cond (s : State) (cc : Cond) : Bool := s.f.holds cc

/-- EX AF,AF' as a swap of values (10_state.md R23, R231). -/
def State.swapAf (s : State) : State := { s with a := s.aAlt, f := s.fAlt, aAlt := s.a, fAlt := s.f }

/-- EXX as a swap of values (10_state.md R23, R232). -/
def State.swapBank (s : State) : State :=
  { s with
    b := s.bAlt, c := s.cAlt, d := s.dAlt, e := s.eAlt, h := s.hAlt, l := s.lAlt
    bAlt := s.b, cAlt := s.c, dAlt := s.d, eAlt := s.e, hAlt := s.h, lAlt := s.l }

/-- PC <- a. -/
def State.jump (s : State) (a : Word) : State := { s with pc := a }

/-- PC <- PC + sext_16(e), PC past the instruction (30_encoding.md R95). -/
def State.jumpRel (s : State) (e : Byte) : State := s.jump (s.pc + sext16 e)

/-- cycles <- cycles + n, modulo 2^64 (R136, D32). -/
def State.spend (s : State) (n : Nat) : State := { s with cycles := s.cycles + BitVec.ofNat 64 n }

/-- `RInc(R, k)` (R134). -/
def rInc (r : Byte) (k : Nat) : Byte := (r &&& 0x80) ||| ((r + BitVec.ofNat 8 k) &&& 0x7F)

/-- Write F: the flags of `f`, with Y and X from `src` (R15, R153).  Two draws are used up under every mode (log entry 3). -/
def State.writeFlags (s : State) (f : Flags) (src : XySource) : State :=
  { s with
    f := { f with
      y := (xyValue s.params.xyMode src s.f s.draws).1
      x := (xyValue s.params.xyMode src s.f s.draws).2 }
    draws := s.draws + 2 }

/-- The end of an instruction: add `Cost(form, taken)` (R135, R136). -/
def retire (i : Instr) (taken : Bool) (s : State) : Result := .next (s.spend (cost s.params.costs i taken))

/-- `Diag(kind, info)` (47_cpu_control_io.md R429). -/
def State.report (s : State) (e : DiagEvent) : State := { s with diag := s.diag ++ [e] }

/-! ### Memory (20_memory.md R62 to R68) -/

/-- The byte memory holds at an address, without an access. -/
def State.peek (s : State) (a : Word) : Byte := s.mem.read a.toNat

/-- Memory with a byte stored, without an access. -/
def State.poke (s : State) (a : Word) (v : Byte) : State := { s with mem := s.mem.write a.toNat v }

/-- One memory access: it fails only when `MEM_FAULT` is true, and then by a free value (R68; log entry 5).  A failed access is reported
and ends the step (60_exceptions.md R431, R432; log entry 17). -/
def access (a : Word) (s : State) : Result :=
  if s.params.memFault then
    if Config.accessFails s.draws a then .fault (.memFault a (s.report (.memFault a))) else .next { s with draws := s.draws + 1 }
  else .next s

/-- `MemRead(addr, 1)` (R62). -/
def readByte (a : Word) (s : State) (k : Byte → State → Result) : Result :=
  andThen (access a s) fun s => k (s.peek a) s

/-- `MemWrite(addr, 1, v)` (R63). -/
def writeByte (a : Word) (v : Byte) (s : State) (k : State → Result) : Result :=
  andThen (access a s) fun s => k (s.poke a v)

/-- `MemRead(addr, 2)`: low byte at `addr` first, high byte at `addr + 1` modulo 2^16 (R64). -/
def readWord (a : Word) (s : State) (k : Word → State → Result) : Result :=
  readByte a s fun lo s => readByte (a + 1) s fun hi s => k (joinBytes hi lo) s

/-- `MemWrite(addr, 2, v)`: low byte first (R64). -/
def writeWord (a : Word) (v : Word) (s : State) (k : State → Result) : Result :=
  writeByte a (loByte v) s fun s => writeByte (a + 1) (hiByte v) s k

/-- `Push16(v)` (R145). -/
def push16 (v : Word) (s : State) (k : State → Result) : Result :=
  let s := { s with sp := s.sp - 2 }
  writeWord s.sp v s k

/-- `Pop16()` (R146). -/
def pop16 (s : State) (k : Word → State → Result) : Result :=
  readWord s.sp s fun v s => k v { s with sp := s.sp + 2 }

/-! ### Input and output (20_memory.md R71 to R73) -/

/-- The byte `IoRead(port)` returns now (R71). -/
def State.portValue (s : State) (port : Word) : Byte := Config.ioRead s.io port

/-- Record the event of `IoRead(port)` (R71). -/
def State.readPort (s : State) (port : Word) : State := { s with io := s.io ++ [.input port (s.portValue port)] }

/-- `IoWrite(port, v)` (R73). -/
def State.writePort (s : State) (port : Word) (v : Byte) : State := { s with io := s.io ++ [.output port v] }

/-! ### Taking an interrupt, and returning from one (60_exceptions.md R439 to R449) -/

/-- What every dispatched acceptance does: push PC, load PC from the target, add the cost.  The push comes before the target is read
(R444). -/
def takeInterrupt (price : Nat) (target : State → (Word → State → Result) → Result) (s : State) (k : State → Result) : Result :=
  push16 s.pc s fun s => target s fun a s => k ((s.jump a).spend price)

/-- A fixed target. -/
def fixedTarget (a : Word) (s : State) (k : Word → State → Result) : Result := k a s

/-- The address of the mode 2 table entry, `(I << 8) | DEVICE_VECTOR` (R444). -/
def State.vectorEntry (s : State) : Word := joinBytes s.i s.params.deviceVector

/-- The mode 2 target: the word at the table entry (R444). -/
def vectorTarget (s : State) (k : Word → State → Result) : Result := readWord s.vectorEntry s k

/-- `AcceptNMI()` (R439). -/
def acceptNmi (s : State) : Result :=
  takeInterrupt (nmiCost s.params.costs) (fixedTarget 0x0066) { s with halted := false, iff2 := s.iff1, iff1 := false } fun s =>
    .next { s with nmiPending := false }

/-- `AcceptINT()` (R442): the mode dispatch R443, then `int_pending <- 0`. -/
def acceptInt (s : State) : Result :=
  let s := { s with halted := false, iff1 := false }
  let done := fun (s : State) => (.next { s with intPending := false } : Result)
  match s.im.toNat with
  | 0 => takeInterrupt (mode1Cost s.params.costs) (fixedTarget 0x0038) s done
  | 1 => takeInterrupt (mode1Cost s.params.costs) (fixedTarget 0x0038) s done
  | 2 => takeInterrupt (mode2Cost s.params.costs) vectorTarget s done
  | _ => done (s.report (.invalidInterruptMode s.im))

/-- RETN and RETI: pop PC, `IFF1 <- IFF2` (46_control.md R381, R382). -/
def returnFromInterrupt (s : State) (k : State → Result) : Result :=
  pop16 s fun v s => k { s with pc := v, iff1 := s.iff2 }

end Sys2Proof.Machine
end

