-- ==== Sys2Proof/Machine/Operands.lean ====
section
/-! DEFINITION. The operand forms and the operations the instruction families share (spec/41_load.md to 47_cpu_control_io.md): the
accumulator operations, increments, read-modify-write of memory, rotates, nibble rotates, bit tests, block iterations, calls, and the
control of interrupts. -/

namespace Sys2Proof.Machine

/-! ### 8-bit arithmetic (43_arith8.md) -/

/-- `alu[y]` (30_encoding.md R100). -/
inductive AluOp where
  | add | adc | sub | sbc | and | xor | or | cp
deriving DecidableEq, Repr

/-- `A <- Add8(A, v, cin)` (R262, R263). -/
def State.addA (s : State) (v : Byte) (cin : Bool) : State :=
  { s.writeFlags (add8Flags s.f s.a v cin) (.ofByte (add8 s.a v cin)) with a := add8 s.a v cin }

/-- `A <- Sub8(A, v, cin)` (R264, R265). -/
def State.subA (s : State) (v : Byte) (cin : Bool) : State :=
  { s.writeFlags (sub8Flags s.f s.a v cin) (.ofByte (sub8 s.a v cin)) with a := sub8 s.a v cin }

/-- `A <- Logic(op, A, v)` (R266 to R268). -/
def State.logicA (s : State) (op : LogicOp) (v : Byte) : State :=
  { s.writeFlags (logic8Flags s.f op s.a v) (.ofByte (logic8 op s.a v)) with a := logic8 op s.a v }

/-- CP: the flags of SUB, A unchanged, Y and X from the operand (R269). -/
def State.compareA (s : State) (v : Byte) : State := s.writeFlags (sub8Flags s.f s.a v false) (.ofByte v)

/-- The accumulator operation on a source value (R262 to R269). -/
def State.alu (s : State) (op : AluOp) (v : Byte) : State :=
  match op with
  | .add => s.addA v false
  | .adc => s.addA v s.f.c
  | .sub => s.subA v false
  | .sbc => s.subA v s.f.c
  | .and => s.logicA .and v
  | .xor => s.logicA .xor v
  | .or => s.logicA .or v
  | .cp => s.compareA v

/-- The flags of `Inc8` on the old value (R144, R270). -/
def State.incFlags (s : State) (v : Byte) : State := s.writeFlags (inc8Flags s.f v) (.ofByte (inc8 v))

/-- The flags of `Dec8` on the old value (R144, R274). -/
def State.decFlags (s : State) (v : Byte) : State := s.writeFlags (dec8Flags s.f v) (.ofByte (dec8 v))

/-- DAA (R278). -/
def State.decimalAdjust (s : State) : State :=
  { s.writeFlags (daaFlags s.f s.a) (.ofByte (daa s.f s.a)) with a := daa s.f s.a }

/-- CPL (R279). -/
def State.complementA (s : State) : State := { s.writeFlags (cplFlags s.f) (.ofByte (~~~s.a)) with a := ~~~s.a }

/-- NEG: `A <- Sub8(0, A, 0)` (R280). -/
def State.negateA (s : State) : State :=
  { s.writeFlags (sub8Flags s.f 0 s.a false) (.ofByte (sub8 0 s.a false)) with a := sub8 0 s.a false }

/-- CCF (R281). -/
def State.complementCarry (s : State) : State := s.writeFlags (ccfFlags s.f) .drawn

/-- SCF (R282). -/
def State.setCarry (s : State) : State := s.writeFlags (scfFlags s.f) .drawn

/-! ### 16-bit arithmetic (44_arith16.md) -/

/-- The flags of `Add16` (R149, R301). -/
def State.add16Flags (s : State) (a b : Word) : State :=
  s.writeFlags (Machine.add16Flags s.f a b) (.ofByte (hiByte (a + b)))

/-- The flags of `Adc16` with the carry of F (R150, R303). -/
def State.adc16Flags (s : State) (a b : Word) : State :=
  s.writeFlags (Machine.adc16Flags s.f a b s.f.c) (.ofByte (hiByte (adc16 a b s.f.c)))

/-- The flags of `Sbc16` with the carry of F (R151, R304). -/
def State.sbc16Flags (s : State) (a b : Word) : State :=
  s.writeFlags (Machine.sbc16Flags s.f a b s.f.c) (.ofByte (hiByte (sbc16 a b s.f.c)))

/-! ### Rotates, shifts and bits (45_rotate_bit.md) -/

/-- RLCA, RRCA, RLA, RRA (R321 to R324). -/
def State.rotateA (s : State) (op : RotOp) : State :=
  { s.writeFlags (rotateAFlags s.f op s.a) (.ofByte (rot op s.a s.f.c)) with a := rot op s.a s.f.c }

/-- The flags of `Rot` on the old value (R147). -/
def State.rotFlags (s : State) (op : RotOp) (v : Byte) : State :=
  s.writeFlags (Machine.rotFlags s.f op v) (.ofByte (rot op v s.f.c))

/-- A rotate or shift of the byte at an address: read once, set the flags, write once (R325); the result goes on. -/
def rotMem (op : RotOp) (a : Word) (s : State) (k : Byte → State → Result) : Result :=
  readByte a s fun v s => writeByte a (rot op v s.f.c) (s.rotFlags op v) fun t => k (rot op v s.f.c) t

/-- A read-modify-write that writes no flag (RES, SET: R350, R354); the result goes on. -/
def modifyByte (g : Byte → Byte) (a : Word) (s : State) (k : Byte → State → Result) : Result :=
  readByte a s fun v s => writeByte a (g v) s fun s => k (g v) s

/-- `BitTest(b, v)` with the rule's source of Y and X (R148, R341, R347). -/
def State.bitTest (s : State) (n : BitVec 3) (v : Byte) (src : XySource) : State := s.writeFlags (bitTestFlags s.f n v) src

/-- BIT of the byte at EA: Y and X from `hi(EA)` (R348). -/
def bitMemIid (a : Word) (n : BitVec 3) (s : State) (k : State → Result) : Result :=
  readByte a s fun v s => k (s.bitTest n v (.ofByte (hiByte a)))

/-- A <- v with the flags of RLD and RRD (R334, R335). -/
def State.digitA (s : State) (v : Byte) : State := { s.writeFlags (byteFlags s.f v) (.ofByte v) with a := v }

/-- RLD (R334). -/
def rotateDigitLeft (s : State) (k : State → Result) : Result :=
  readByte s.hl s fun t s => writeByte s.hl ((t <<< 4) ||| (s.a &&& 0x0F)) s fun s => k (s.digitA ((s.a &&& 0xF0) ||| (t >>> 4)))

/-- RRD (R335). -/
def rotateDigitRight (s : State) (k : State → Result) : Result :=
  readByte s.hl s fun t s => writeByte s.hl ((s.a <<< 4) ||| (t >>> 4)) s fun s => k (s.digitA ((s.a &&& 0xF0) ||| (t &&& 0x0F)))

/-! ### Block instructions (42_exchange_block.md, 47_cpu_control_io.md R417 to R424) -/

/-- The direction of a block instruction's pointers. -/
inductive Direction where
  | up | down
deriving DecidableEq, Repr

/-- The pointer after one iteration. -/
def Direction.move : Direction → Word → Word
  | .up, w => w + 1
  | .down, w => w - 1

/-- The registers and flags after one block move of the byte `v` (R236, R237). -/
def State.moved (s : State) (dir : Direction) (v : Byte) : State :=
  let t := ((s.set16 .hl (dir.move s.hl)).set16 .de (dir.move s.de)).set16 .bc (s.bc - 1)
  t.writeFlags (moveFlags t.f t.bc) (.ofNibble (t.a + v))

/-- One iteration of LDI or LDD (R236, R237). -/
def moveBlock (dir : Direction) (s : State) (k : State → Result) : Result :=
  readByte s.hl s fun v s => writeByte s.de v s fun s => k (s.moved dir v)

/-- The registers and flags after one block compare with the byte `v` (R241, R242). -/
def State.compared (s : State) (dir : Direction) (v : Byte) : State :=
  let t := (s.set16 .hl (dir.move s.hl)).set16 .bc (s.bc - 1)
  t.writeFlags (compareFlags t.f t.a v t.bc) (.ofNibble (compareXyByte t.a v))

/-- One iteration of CPI or CPD (R241, R242). -/
def compareBlock (dir : Direction) (s : State) (k : State → Result) : Result :=
  readByte s.hl s fun v s => k (s.compared dir v)

/-- Z, N and the drawn S, H, PV, Y, X of the block I/O instructions, after B and HL have moved (R417, D13). -/
def State.blockIoDone (s : State) : State :=
  { s with draws := s.draws + 3 }.writeFlags
    (blockIoFlags s.f s.b (Config.drawBit s.draws) (Config.drawBit (s.draws + 1)) (Config.drawBit (s.draws + 2))) .drawn

/-- One iteration of INI or IND: port BC before B is decremented (R417, R418). -/
def inputBlock (dir : Direction) (s : State) (k : State → Result) : Result :=
  let v := s.portValue s.bc
  writeByte s.hl v (s.readPort s.bc) fun s => k ((s.set8 .b (s.b - 1)).set16 .hl (dir.move s.hl)).blockIoDone

/-- One iteration of OUTI or OUTD: port BC after B is decremented (R421, R422). -/
def outputBlock (dir : Direction) (s : State) (k : State → Result) : Result :=
  readByte s.hl s fun v s =>
    let t := s.set8 .b (s.b - 1)
    k ((t.writePort t.bc v).set16 .hl (dir.move t.hl)).blockIoDone

/-- The repeat of R240: when the condition holds, PC goes back to the ED byte and the repeat cost is added. -/
def repeatWhile (i : Instr) (again : Bool) (s : State) : Result :=
  if again then retire i true (s.jump (s.pc - 2)) else retire i false s

/-! ### Control (46_control.md) -/

/-- DJNZ (R367). -/
def djnz (i : Instr) (e : Byte) (s : State) : Result :=
  let t := s.set8 .b (s.b - 1)
  if t.b != 0 then retire i true (t.jumpRel e) else retire i false t

/-- CALL and RST: `Push16(PC); PC <- a` (R368, R378). -/
def callTo (a : Word) (s : State) (k : State → Result) : Result := push16 s.pc s fun s => k (s.jump a)

/-- RET: `PC <- Pop16()` (R370). -/
def popPc (s : State) (k : State → Result) : Result := pop16 s fun v s => k (s.jump v)

/-- The target of RST, `y * 8` (R378). -/
def restartAddress (y : BitVec 3) : Word := BitVec.ofNat 16 (y.toNat * 8)

/-! ### CPU control, I, R, input and output (47_cpu_control_io.md) -/

/-- HALT (R392). -/
def State.enterHalt (s : State) : State := { s with halted := true }

/-- DI (R402). -/
def State.disableInterrupts (s : State) : State := { s with iff1 := false, iff2 := false }

/-- EI (R403). -/
def State.enableInterrupts (s : State) : State := { s with iff1 := true, iff2 := true, intBlock := .afterEI }

/-- IM n (R404). -/
def State.setIm (s : State) (m : BitVec 2) : State := { s with im := m }

/-- LD I,A (R405). -/
def State.setI (s : State) (v : Byte) : State := { s with i := v }

/-- LD R,A, all eight bits (R407). -/
def State.setR (s : State) (v : Byte) : State := { s with r := v }

/-- LD A,I and LD A,R: PV takes IFF2 (R406, R408). -/
def State.loadSpecial (s : State) (v : Byte) : State := { s.writeFlags (specialFlags s.f v s.iff2) (.ofByte v) with a := v }

/-- The port `A:n` (20_memory.md R72). -/
def State.portA (s : State) (n : Byte) : Word := joinBytes s.a n

/-- The event and the flags of IN r,(C) and IN (C) (R413, R414). -/
def State.inputBc (s : State) : State :=
  (s.readPort s.bc).writeFlags (byteFlags s.f (s.portValue s.bc)) (.ofByte (s.portValue s.bc))

/-- A lone DD or FD (R427). -/
def State.blockAfterLoneByte (s : State) : State := { s with intBlock := .afterPrefix }

/-- An unmapped ED byte: the diagnostic with the address of the ED byte, PC being past the two bytes (R428). -/
def State.reportUnknown (s : State) (op : Byte) : State := s.report (.unknownOpcode (s.pc - 2) 0xED op)

end Sys2Proof.Machine
end

