-- ==== Sys2Proof/Machine/Arith16.lean ====
section
/-! DEFINITION. The meanings of 16-bit arithmetic (spec/44_arith16.md R301 to R308).
Each runs with PC and R already past the instruction (40_step_and_microops.md R133, R134) and ends by adding its cost (R136). -/

namespace Sys2Proof.Machine

/-- ADD HL,rr (R301). -/
def execAddHlRr (rr : Pair) (s : State) : Result :=
  retire (.addHlRr rr) false ((s.add16Flags s.hl (s.get16 rr)).set16 .hl (s.hl + s.get16 rr))

/-- ADD ii,BC (R302). -/
def execAddIiBc (ii : Idx) (s : State) : Result :=
  retire (.addIiBc ii) false ((s.add16Flags (s.idx ii) s.bc).setIdx ii (s.idx ii + s.bc))

/-- ADD ii,DE (R302). -/
def execAddIiDe (ii : Idx) (s : State) : Result :=
  retire (.addIiDe ii) false ((s.add16Flags (s.idx ii) s.de).setIdx ii (s.idx ii + s.de))

/-- ADD ii,ii (R302). -/
def execAddIiIi (ii : Idx) (s : State) : Result :=
  retire (.addIiIi ii) false ((s.add16Flags (s.idx ii) (s.idx ii)).setIdx ii (s.idx ii + (s.idx ii)))

/-- ADD ii,SP (R302). -/
def execAddIiSp (ii : Idx) (s : State) : Result :=
  retire (.addIiSp ii) false ((s.add16Flags (s.idx ii) s.sp).setIdx ii (s.idx ii + s.sp))

/-- ADC HL,rr (R303). -/
def execAdcHlRr (rr : Pair) (s : State) : Result :=
  retire (.adcHlRr rr) false ((s.adc16Flags s.hl (s.get16 rr)).set16 .hl (adc16 s.hl (s.get16 rr) s.f.c))

/-- SBC HL,rr (R304). -/
def execSbcHlRr (rr : Pair) (s : State) : Result :=
  retire (.sbcHlRr rr) false ((s.sbc16Flags s.hl (s.get16 rr)).set16 .hl (sbc16 s.hl (s.get16 rr) s.f.c))

/-- INC rr (R305). -/
def execIncRr (rr : Pair) (s : State) : Result :=
  retire (.incRr rr) false (s.set16 rr (s.get16 rr + 1))

/-- DEC rr (R306). -/
def execDecRr (rr : Pair) (s : State) : Result :=
  retire (.decRr rr) false (s.set16 rr (s.get16 rr - 1))

/-- INC ii (R307). -/
def execIncIi (ii : Idx) (s : State) : Result :=
  retire (.incIi ii) false (s.setIdx ii (s.idx ii + 1))

/-- DEC ii (R308). -/
def execDecIi (ii : Idx) (s : State) : Result :=
  retire (.decIi ii) false (s.setIdx ii (s.idx ii - 1))

end Sys2Proof.Machine
end

