-- ==== Sys2Proof/Machine/Arith8.lean ====
section
/-! DEFINITION. The meanings of 8-bit arithmetic and logic (spec/43_arith8.md R261 to R282).
Each runs with PC and R already past the instruction (40_step_and_microops.md R133, R134) and ends by adding its cost (R136). -/

namespace Sys2Proof.Machine

/-- ADD A,r (R262). -/
def execAddAR (r : Reg8) (s : State) : Result :=
  retire (.addAR r) false (s.alu .add (s.get8 r))

/-- ADD A,(HL) (R262). -/
def execAddAMemHl (s : State) : Result :=
  readByte s.hl s fun v s => retire .addAMemHl false (s.alu .add v)

/-- ADD A,n (R262). -/
def execAddAN (n : Byte) (s : State) : Result :=
  retire (.addAN n) false (s.alu .add n)

/-- ADD A,iiH (R262). -/
def execAddAIih (ii : Idx) (s : State) : Result :=
  retire (.addAIih ii) false (s.alu .add (s.idxHi ii))

/-- ADD A,iiL (R262). -/
def execAddAIil (ii : Idx) (s : State) : Result :=
  retire (.addAIil ii) false (s.alu .add (s.idxLo ii))

/-- ADD A,(ii+d) (R262). -/
def execAddAMemIid (ii : Idx) (d : Byte) (s : State) : Result :=
  readByte (s.ea ii d) s fun v s => retire (.addAMemIid ii d) false (s.alu .add v)

/-- ADC A,r (R263). -/
def execAdcAR (r : Reg8) (s : State) : Result :=
  retire (.adcAR r) false (s.alu .adc (s.get8 r))

/-- ADC A,(HL) (R263). -/
def execAdcAMemHl (s : State) : Result :=
  readByte s.hl s fun v s => retire .adcAMemHl false (s.alu .adc v)

/-- ADC A,n (R263). -/
def execAdcAN (n : Byte) (s : State) : Result :=
  retire (.adcAN n) false (s.alu .adc n)

/-- ADC A,iiH (R263). -/
def execAdcAIih (ii : Idx) (s : State) : Result :=
  retire (.adcAIih ii) false (s.alu .adc (s.idxHi ii))

/-- ADC A,iiL (R263). -/
def execAdcAIil (ii : Idx) (s : State) : Result :=
  retire (.adcAIil ii) false (s.alu .adc (s.idxLo ii))

/-- ADC A,(ii+d) (R263). -/
def execAdcAMemIid (ii : Idx) (d : Byte) (s : State) : Result :=
  readByte (s.ea ii d) s fun v s => retire (.adcAMemIid ii d) false (s.alu .adc v)

/-- SUB r (R264). -/
def execSubR (r : Reg8) (s : State) : Result :=
  retire (.subR r) false (s.alu .sub (s.get8 r))

/-- SUB (HL) (R264). -/
def execSubMemHl (s : State) : Result :=
  readByte s.hl s fun v s => retire .subMemHl false (s.alu .sub v)

/-- SUB n (R264). -/
def execSubN (n : Byte) (s : State) : Result :=
  retire (.subN n) false (s.alu .sub n)

/-- SUB iiH (R264). -/
def execSubIih (ii : Idx) (s : State) : Result :=
  retire (.subIih ii) false (s.alu .sub (s.idxHi ii))

/-- SUB iiL (R264). -/
def execSubIil (ii : Idx) (s : State) : Result :=
  retire (.subIil ii) false (s.alu .sub (s.idxLo ii))

/-- SUB (ii+d) (R264). -/
def execSubMemIid (ii : Idx) (d : Byte) (s : State) : Result :=
  readByte (s.ea ii d) s fun v s => retire (.subMemIid ii d) false (s.alu .sub v)

/-- SBC A,r (R265). -/
def execSbcAR (r : Reg8) (s : State) : Result :=
  retire (.sbcAR r) false (s.alu .sbc (s.get8 r))

/-- SBC A,(HL) (R265). -/
def execSbcAMemHl (s : State) : Result :=
  readByte s.hl s fun v s => retire .sbcAMemHl false (s.alu .sbc v)

/-- SBC A,n (R265). -/
def execSbcAN (n : Byte) (s : State) : Result :=
  retire (.sbcAN n) false (s.alu .sbc n)

/-- SBC A,iiH (R265). -/
def execSbcAIih (ii : Idx) (s : State) : Result :=
  retire (.sbcAIih ii) false (s.alu .sbc (s.idxHi ii))

/-- SBC A,iiL (R265). -/
def execSbcAIil (ii : Idx) (s : State) : Result :=
  retire (.sbcAIil ii) false (s.alu .sbc (s.idxLo ii))

/-- SBC A,(ii+d) (R265). -/
def execSbcAMemIid (ii : Idx) (d : Byte) (s : State) : Result :=
  readByte (s.ea ii d) s fun v s => retire (.sbcAMemIid ii d) false (s.alu .sbc v)

/-- AND r (R266). -/
def execAndR (r : Reg8) (s : State) : Result :=
  retire (.andR r) false (s.alu .and (s.get8 r))

/-- AND (HL) (R266). -/
def execAndMemHl (s : State) : Result :=
  readByte s.hl s fun v s => retire .andMemHl false (s.alu .and v)

/-- AND n (R266). -/
def execAndN (n : Byte) (s : State) : Result :=
  retire (.andN n) false (s.alu .and n)

/-- AND iiH (R266). -/
def execAndIih (ii : Idx) (s : State) : Result :=
  retire (.andIih ii) false (s.alu .and (s.idxHi ii))

/-- AND iiL (R266). -/
def execAndIil (ii : Idx) (s : State) : Result :=
  retire (.andIil ii) false (s.alu .and (s.idxLo ii))

/-- AND (ii+d) (R266). -/
def execAndMemIid (ii : Idx) (d : Byte) (s : State) : Result :=
  readByte (s.ea ii d) s fun v s => retire (.andMemIid ii d) false (s.alu .and v)

/-- XOR r (R267). -/
def execXorR (r : Reg8) (s : State) : Result :=
  retire (.xorR r) false (s.alu .xor (s.get8 r))

/-- XOR (HL) (R267). -/
def execXorMemHl (s : State) : Result :=
  readByte s.hl s fun v s => retire .xorMemHl false (s.alu .xor v)

/-- XOR n (R267). -/
def execXorN (n : Byte) (s : State) : Result :=
  retire (.xorN n) false (s.alu .xor n)

/-- XOR iiH (R267). -/
def execXorIih (ii : Idx) (s : State) : Result :=
  retire (.xorIih ii) false (s.alu .xor (s.idxHi ii))

/-- XOR iiL (R267). -/
def execXorIil (ii : Idx) (s : State) : Result :=
  retire (.xorIil ii) false (s.alu .xor (s.idxLo ii))

/-- XOR (ii+d) (R267). -/
def execXorMemIid (ii : Idx) (d : Byte) (s : State) : Result :=
  readByte (s.ea ii d) s fun v s => retire (.xorMemIid ii d) false (s.alu .xor v)

/-- OR r (R268). -/
def execOrR (r : Reg8) (s : State) : Result :=
  retire (.orR r) false (s.alu .or (s.get8 r))

/-- OR (HL) (R268). -/
def execOrMemHl (s : State) : Result :=
  readByte s.hl s fun v s => retire .orMemHl false (s.alu .or v)

/-- OR n (R268). -/
def execOrN (n : Byte) (s : State) : Result :=
  retire (.orN n) false (s.alu .or n)

/-- OR iiH (R268). -/
def execOrIih (ii : Idx) (s : State) : Result :=
  retire (.orIih ii) false (s.alu .or (s.idxHi ii))

/-- OR iiL (R268). -/
def execOrIil (ii : Idx) (s : State) : Result :=
  retire (.orIil ii) false (s.alu .or (s.idxLo ii))

/-- OR (ii+d) (R268). -/
def execOrMemIid (ii : Idx) (d : Byte) (s : State) : Result :=
  readByte (s.ea ii d) s fun v s => retire (.orMemIid ii d) false (s.alu .or v)

/-- CP r (R269). -/
def execCpR (r : Reg8) (s : State) : Result :=
  retire (.cpR r) false (s.alu .cp (s.get8 r))

/-- CP (HL) (R269). -/
def execCpMemHl (s : State) : Result :=
  readByte s.hl s fun v s => retire .cpMemHl false (s.alu .cp v)

/-- CP n (R269). -/
def execCpN (n : Byte) (s : State) : Result :=
  retire (.cpN n) false (s.alu .cp n)

/-- CP iiH (R269). -/
def execCpIih (ii : Idx) (s : State) : Result :=
  retire (.cpIih ii) false (s.alu .cp (s.idxHi ii))

/-- CP iiL (R269). -/
def execCpIil (ii : Idx) (s : State) : Result :=
  retire (.cpIil ii) false (s.alu .cp (s.idxLo ii))

/-- CP (ii+d) (R269). -/
def execCpMemIid (ii : Idx) (d : Byte) (s : State) : Result :=
  readByte (s.ea ii d) s fun v s => retire (.cpMemIid ii d) false (s.alu .cp v)

/-- INC r (R270). -/
def execIncR (r : Reg8) (s : State) : Result :=
  retire (.incR r) false ((s.incFlags (s.get8 r)).set8 r (inc8 (s.get8 r)))

/-- INC (HL) (R271). -/
def execIncMemHl (s : State) : Result :=
  readByte s.hl s fun v s => writeByte s.hl (inc8 v) (s.incFlags v) fun s => retire .incMemHl false s

/-- INC (ii+d) (R272). -/
def execIncMemIid (ii : Idx) (d : Byte) (s : State) : Result :=
  readByte (s.ea ii d) s fun v s =>
  writeByte (s.ea ii d) (inc8 v) (s.incFlags v) fun s =>
  retire (.incMemIid ii d) false s

/-- INC iiH (R273). -/
def execIncIih (ii : Idx) (s : State) : Result :=
  retire (.incIih ii) false ((s.incFlags (s.idxHi ii)).setIdxHi ii (inc8 (s.idxHi ii)))

/-- INC iiL (R273). -/
def execIncIil (ii : Idx) (s : State) : Result :=
  retire (.incIil ii) false ((s.incFlags (s.idxLo ii)).setIdxLo ii (inc8 (s.idxLo ii)))

/-- DEC r (R274). -/
def execDecR (r : Reg8) (s : State) : Result :=
  retire (.decR r) false ((s.decFlags (s.get8 r)).set8 r (dec8 (s.get8 r)))

/-- DEC (HL) (R275). -/
def execDecMemHl (s : State) : Result :=
  readByte s.hl s fun v s => writeByte s.hl (dec8 v) (s.decFlags v) fun s => retire .decMemHl false s

/-- DEC (ii+d) (R276). -/
def execDecMemIid (ii : Idx) (d : Byte) (s : State) : Result :=
  readByte (s.ea ii d) s fun v s =>
  writeByte (s.ea ii d) (dec8 v) (s.decFlags v) fun s =>
  retire (.decMemIid ii d) false s

/-- DEC iiH (R277). -/
def execDecIih (ii : Idx) (s : State) : Result :=
  retire (.decIih ii) false ((s.decFlags (s.idxHi ii)).setIdxHi ii (dec8 (s.idxHi ii)))

/-- DEC iiL (R277). -/
def execDecIil (ii : Idx) (s : State) : Result :=
  retire (.decIil ii) false ((s.decFlags (s.idxLo ii)).setIdxLo ii (dec8 (s.idxLo ii)))

/-- DAA (R278). -/
def execDaa (s : State) : Result :=
  retire .daa false s.decimalAdjust

/-- CPL (R279). -/
def execCpl (s : State) : Result :=
  retire .cpl false s.complementA

/-- NEG (R280). -/
def execNeg (s : State) : Result :=
  retire .neg false s.negateA

/-- NEG (duplicate encoding) (R280). -/
def execNegDup (y : BitVec 3) (s : State) : Result :=
  retire (.negDup y) false s.negateA

/-- CCF (R281). -/
def execCcf (s : State) : Result :=
  retire .ccf false s.complementCarry

/-- SCF (R282). -/
def execScf (s : State) : Result :=
  retire .scf false s.setCarry

end Sys2Proof.Machine
end

