-- ==== Sys2Proof/Machine/Control.lean ====
section
/-! DEFINITION. The meanings of jumps, calls and returns (spec/46_control.md R361 to R382).
Each runs with PC and R already past the instruction (40_step_and_microops.md R133, R134) and ends by adding its cost (R136). -/

namespace Sys2Proof.Machine

/-- JP nn (R361). -/
def execJpNn (nn : Word) (s : State) : Result :=
  retire (.jpNn nn) false (s.jump nn)

/-- JP cc,nn (R362). -/
def execJpCcNn (cc : Cond) (nn : Word) (s : State) : Result :=
  if s.cond cc then retire (.jpCcNn cc nn) true (s.jump nn) else retire (.jpCcNn cc nn) false s

/-- JP (HL) (R363). -/
def execJpHl (s : State) : Result :=
  retire .jpHl false (s.jump s.hl)

/-- JP (ii) (R364). -/
def execJpIi (ii : Idx) (s : State) : Result :=
  retire (.jpIi ii) false (s.jump (s.idx ii))

/-- JR e (R365). -/
def execJrE (e : Byte) (s : State) : Result :=
  retire (.jrE e) false (s.jumpRel e)

/-- JR cc,e (R366). -/
def execJrCcE (cc : Cond) (e : Byte) (s : State) : Result :=
  if s.cond cc then retire (.jrCcE cc e) true (s.jumpRel e) else retire (.jrCcE cc e) false s

/-- DJNZ e (R367). -/
def execDjnzE (e : Byte) (s : State) : Result :=
  djnz (.djnzE e) e s

/-- CALL nn (R368). -/
def execCallNn (nn : Word) (s : State) : Result :=
  callTo nn s fun s => retire (.callNn nn) false s

/-- CALL cc,nn (R369). -/
def execCallCcNn (cc : Cond) (nn : Word) (s : State) : Result :=
  if s.cond cc then callTo nn s fun s => retire (.callCcNn cc nn) true s else retire (.callCcNn cc nn) false s

/-- RET (R370). -/
def execRet (s : State) : Result :=
  popPc s fun s => retire .ret false s

/-- RET cc (R371). -/
def execRetCc (cc : Cond) (s : State) : Result :=
  if s.cond cc then popPc s fun s => retire (.retCc cc) true s else retire (.retCc cc) false s

/-- RST p (R378). -/
def execRstP (y : BitVec 3) (s : State) : Result :=
  callTo (restartAddress y) s fun s => retire (.rstP y) false s

/-- RETN (R381). -/
def execRetn (s : State) : Result :=
  returnFromInterrupt s fun s => retire .retn false s

/-- RETN (duplicate encoding) (R381). -/
def execRetnDup (y : BitVec 3) (s : State) : Result :=
  returnFromInterrupt s fun s => retire (.retnDup y) false s

/-- RETI (R382). -/
def execReti (s : State) : Result :=
  returnFromInterrupt s fun s => retire .reti false s

end Sys2Proof.Machine
end

