-- ==== Sys2Proof/Machine/CpuIo.lean ====
section
/-! DEFINITION. The meanings of CPU control, I and R, input and output, the no-op forms (spec/47_cpu_control_io.md R391 to R429).
Each runs with PC and R already past the instruction (40_step_and_microops.md R133, R134) and ends by adding its cost (R136). -/

namespace Sys2Proof.Machine

/-- NOP (R391). -/
def execNop (s : State) : Result :=
  retire .nop false s

/-- HALT (R392). -/
def execHalt (s : State) : Result :=
  retire .halt false s.enterHalt

/-- DI (R402). -/
def execDi (s : State) : Result :=
  retire .di false s.disableInterrupts

/-- EI (R403). -/
def execEi (s : State) : Result :=
  retire .ei false s.enableInterrupts

/-- IM 0 (R404). -/
def execIm0 (s : State) : Result :=
  retire .im0 false (s.setIm 0)

/-- IM 0 (duplicate encoding) (R404). -/
def execIm0Dup (y : BitVec 3) (s : State) : Result :=
  retire (.im0Dup y) false (s.setIm 0)

/-- IM 1 (R404). -/
def execIm1 (s : State) : Result :=
  retire .im1 false (s.setIm 1)

/-- IM 1 (duplicate encoding) (R404). -/
def execIm1Dup (s : State) : Result :=
  retire .im1Dup false (s.setIm 1)

/-- IM 2 (R404). -/
def execIm2 (s : State) : Result :=
  retire .im2 false (s.setIm 2)

/-- IM 2 (duplicate encoding) (R404). -/
def execIm2Dup (s : State) : Result :=
  retire .im2Dup false (s.setIm 2)

/-- LD I,A (R405). -/
def execLdIA (s : State) : Result :=
  retire .ldIA false (s.setI s.a)

/-- LD A,I (R406). -/
def execLdAI (s : State) : Result :=
  retire .ldAI false (s.loadSpecial s.i)

/-- LD R,A (R407). -/
def execLdRegRA (s : State) : Result :=
  retire .ldRegRA false (s.setR s.a)

/-- LD A,R (R408). -/
def execLdARegR (s : State) : Result :=
  retire .ldARegR false (s.loadSpecial s.r)

/-- IN A,(n) (R411). -/
def execInAMemN (n : Byte) (s : State) : Result :=
  retire (.inAMemN n) false ((s.readPort (s.portA n)).set8 .a (s.portValue (s.portA n)))

/-- OUT (n),A (R412). -/
def execOutMemNA (n : Byte) (s : State) : Result :=
  retire (.outMemNA n) false (s.writePort (s.portA n) s.a)

/-- IN r,(C) (R413). -/
def execInRMemC (r : Reg8) (s : State) : Result :=
  retire (.inRMemC r) false (s.inputBc.set8 r (s.portValue s.bc))

/-- IN (C) (R414). -/
def execInMemC (s : State) : Result :=
  retire .inMemC false s.inputBc

/-- OUT (C),r (R415). -/
def execOutMemCR (r : Reg8) (s : State) : Result :=
  retire (.outMemCR r) false (s.writePort s.bc (s.get8 r))

/-- OUT (C),0 (R416). -/
def execOutMemC0 (s : State) : Result :=
  retire .outMemC0 false (s.writePort s.bc 0)

/-- INI (R417). -/
def execIni (s : State) : Result :=
  inputBlock .up s fun s => retire .ini false s

/-- IND (R418). -/
def execInd (s : State) : Result :=
  inputBlock .down s fun s => retire .ind false s

/-- INIR (R419). -/
def execInir (s : State) : Result :=
  inputBlock .up s fun s => repeatWhile .inir (s.b != 0) s

/-- INDR (R420). -/
def execIndr (s : State) : Result :=
  inputBlock .down s fun s => repeatWhile .indr (s.b != 0) s

/-- OUTI (R421). -/
def execOuti (s : State) : Result :=
  outputBlock .up s fun s => retire .outi false s

/-- OUTD (R422). -/
def execOutd (s : State) : Result :=
  outputBlock .down s fun s => retire .outd false s

/-- OTIR (R423). -/
def execOtir (s : State) : Result :=
  outputBlock .up s fun s => repeatWhile .otir (s.b != 0) s

/-- OTDR (R424). -/
def execOtdr (s : State) : Result :=
  outputBlock .down s fun s => repeatWhile .otdr (s.b != 0) s

/-- (lone DD/FD prefix: no-op) (R427): The next byte is decoded afresh by the next step. -/
def execLonePrefix (ii : Idx) (s : State) : Result :=
  retire (.lonePrefix ii) false s.blockAfterLoneByte

/-- (unmapped ED: no-op) (R428). -/
def execUnmappedEd (op : Byte) (s : State) : Result :=
  retire (.unmappedEd op) false (s.reportUnknown op)

end Sys2Proof.Machine
end

