-- ==== Sys2Proof/Machine/Exchange.lean ====
section
/-! DEFINITION. The meanings of the exchanges, block transfer and block compare (spec/42_exchange_block.md R231 to R244).
Each runs with PC and R already past the instruction (40_step_and_microops.md R133, R134) and ends by adding its cost (R136). -/

namespace Sys2Proof.Machine

/-- EX AF,AF' (R231). -/
def execExAfAf (s : State) : Result :=
  retire .exAfAf false s.swapAf

/-- EXX (R232). -/
def execExx (s : State) : Result :=
  retire .exx false s.swapBank

/-- EX DE,HL (R233). -/
def execExDeHl (s : State) : Result :=
  retire .exDeHl false ((s.set16 .de s.hl).set16 .hl s.de)

/-- EX (SP),HL (R234). -/
def execExMemSpHl (s : State) : Result :=
  readWord s.sp s fun v s => writeWord s.sp s.hl s fun s => retire .exMemSpHl false (s.set16 .hl v)

/-- EX (SP),ii (R235). -/
def execExMemSpIi (ii : Idx) (s : State) : Result :=
  readWord s.sp s fun v s => writeWord s.sp (s.idx ii) s fun s => retire (.exMemSpIi ii) false (s.setIdx ii v)

/-- LDI (R236). -/
def execLdi (s : State) : Result :=
  moveBlock .up s fun s => retire .ldi false s

/-- LDD (R237). -/
def execLdd (s : State) : Result :=
  moveBlock .down s fun s => retire .ldd false s

/-- LDIR (R238). -/
def execLdir (s : State) : Result :=
  moveBlock .up s fun s => repeatWhile .ldir (s.bc != 0) s

/-- LDDR (R239). -/
def execLddr (s : State) : Result :=
  moveBlock .down s fun s => repeatWhile .lddr (s.bc != 0) s

/-- CPI (R241). -/
def execCpi (s : State) : Result :=
  compareBlock .up s fun s => retire .cpi false s

/-- CPD (R242). -/
def execCpd (s : State) : Result :=
  compareBlock .down s fun s => retire .cpd false s

/-- CPIR (R243). -/
def execCpir (s : State) : Result :=
  compareBlock .up s fun s => repeatWhile .cpir (s.bc != 0 && !s.f.z) s

/-- CPDR (R244). -/
def execCpdr (s : State) : Result :=
  compareBlock .down s fun s => repeatWhile .cpdr (s.bc != 0 && !s.f.z) s

end Sys2Proof.Machine
end

