-- ==== Sys2Proof/Machine/Load.lean ====
section
/-! DEFINITION. The meanings of the loads and the stack (spec/41_load.md R181 to R214).
Each runs with PC and R already past the instruction (40_step_and_microops.md R133, R134) and ends by adding its cost (R136). -/

namespace Sys2Proof.Machine

/-- LD r,r' (R181). -/
def execLdRR (r : Reg8) (r' : Reg8) (s : State) : Result :=
  retire (.ldRR r r') false (s.set8 r (s.get8 r'))

/-- LD r,n (R182). -/
def execLdRN (r : Reg8) (n : Byte) (s : State) : Result :=
  retire (.ldRN r n) false (s.set8 r n)

/-- LD r,(HL) (R183). -/
def execLdRMemHl (r : Reg8) (s : State) : Result :=
  readByte s.hl s fun v s => retire (.ldRMemHl r) false (s.set8 r v)

/-- LD (HL),r (R184). -/
def execLdMemHlR (r : Reg8) (s : State) : Result :=
  writeByte s.hl (s.get8 r) s fun s => retire (.ldMemHlR r) false s

/-- LD (HL),n (R185). -/
def execLdMemHlN (n : Byte) (s : State) : Result :=
  writeByte s.hl n s fun s => retire (.ldMemHlN n) false s

/-- LD A,(BC) (R186). -/
def execLdAMemBc (s : State) : Result :=
  readByte s.bc s fun v s => retire .ldAMemBc false (s.set8 .a v)

/-- LD A,(DE) (R187). -/
def execLdAMemDe (s : State) : Result :=
  readByte s.de s fun v s => retire .ldAMemDe false (s.set8 .a v)

/-- LD A,(nn) (R188). -/
def execLdAMemNn (nn : Word) (s : State) : Result :=
  readByte nn s fun v s => retire (.ldAMemNn nn) false (s.set8 .a v)

/-- LD (BC),A (R189). -/
def execLdMemBcA (s : State) : Result :=
  writeByte s.bc s.a s fun s => retire .ldMemBcA false s

/-- LD (DE),A (R190). -/
def execLdMemDeA (s : State) : Result :=
  writeByte s.de s.a s fun s => retire .ldMemDeA false s

/-- LD (nn),A (R191). -/
def execLdMemNnA (nn : Word) (s : State) : Result :=
  writeByte nn s.a s fun s => retire (.ldMemNnA nn) false s

/-- LD B,(ii+d) (R192). -/
def execLdBMemIid (ii : Idx) (d : Byte) (s : State) : Result :=
  readByte (s.ea ii d) s fun v s => retire (.ldBMemIid ii d) false (s.set8 .b v)

/-- LD C,(ii+d) (R192). -/
def execLdCMemIid (ii : Idx) (d : Byte) (s : State) : Result :=
  readByte (s.ea ii d) s fun v s => retire (.ldCMemIid ii d) false (s.set8 .c v)

/-- LD D,(ii+d) (R192). -/
def execLdDMemIid (ii : Idx) (d : Byte) (s : State) : Result :=
  readByte (s.ea ii d) s fun v s => retire (.ldDMemIid ii d) false (s.set8 .d v)

/-- LD E,(ii+d) (R192). -/
def execLdEMemIid (ii : Idx) (d : Byte) (s : State) : Result :=
  readByte (s.ea ii d) s fun v s => retire (.ldEMemIid ii d) false (s.set8 .e v)

/-- LD H,(ii+d) (R192). -/
def execLdHMemIid (ii : Idx) (d : Byte) (s : State) : Result :=
  readByte (s.ea ii d) s fun v s => retire (.ldHMemIid ii d) false (s.set8 .h v)

/-- LD L,(ii+d) (R192). -/
def execLdLMemIid (ii : Idx) (d : Byte) (s : State) : Result :=
  readByte (s.ea ii d) s fun v s => retire (.ldLMemIid ii d) false (s.set8 .l v)

/-- LD A,(ii+d) (R192). -/
def execLdAMemIid (ii : Idx) (d : Byte) (s : State) : Result :=
  readByte (s.ea ii d) s fun v s => retire (.ldAMemIid ii d) false (s.set8 .a v)

/-- LD (ii+d),B (R193). -/
def execLdMemIidB (ii : Idx) (d : Byte) (s : State) : Result :=
  writeByte (s.ea ii d) (s.get8 .b) s fun s => retire (.ldMemIidB ii d) false s

/-- LD (ii+d),C (R193). -/
def execLdMemIidC (ii : Idx) (d : Byte) (s : State) : Result :=
  writeByte (s.ea ii d) (s.get8 .c) s fun s => retire (.ldMemIidC ii d) false s

/-- LD (ii+d),D (R193). -/
def execLdMemIidD (ii : Idx) (d : Byte) (s : State) : Result :=
  writeByte (s.ea ii d) (s.get8 .d) s fun s => retire (.ldMemIidD ii d) false s

/-- LD (ii+d),E (R193). -/
def execLdMemIidE (ii : Idx) (d : Byte) (s : State) : Result :=
  writeByte (s.ea ii d) (s.get8 .e) s fun s => retire (.ldMemIidE ii d) false s

/-- LD (ii+d),H (R193). -/
def execLdMemIidH (ii : Idx) (d : Byte) (s : State) : Result :=
  writeByte (s.ea ii d) (s.get8 .h) s fun s => retire (.ldMemIidH ii d) false s

/-- LD (ii+d),L (R193). -/
def execLdMemIidL (ii : Idx) (d : Byte) (s : State) : Result :=
  writeByte (s.ea ii d) (s.get8 .l) s fun s => retire (.ldMemIidL ii d) false s

/-- LD (ii+d),A (R193). -/
def execLdMemIidA (ii : Idx) (d : Byte) (s : State) : Result :=
  writeByte (s.ea ii d) (s.get8 .a) s fun s => retire (.ldMemIidA ii d) false s

/-- LD (ii+d),n (R194). -/
def execLdMemIidN (ii : Idx) (d : Byte) (n : Byte) (s : State) : Result :=
  writeByte (s.ea ii d) n s fun s => retire (.ldMemIidN ii d n) false s

/-- LD B,iiH (R195). -/
def execLdBIih (ii : Idx) (s : State) : Result :=
  retire (.ldBIih ii) false (s.set8 .b (s.idxHi ii))

/-- LD B,iiL (R195). -/
def execLdBIil (ii : Idx) (s : State) : Result :=
  retire (.ldBIil ii) false (s.set8 .b (s.idxLo ii))

/-- LD C,iiH (R195). -/
def execLdCIih (ii : Idx) (s : State) : Result :=
  retire (.ldCIih ii) false (s.set8 .c (s.idxHi ii))

/-- LD C,iiL (R195). -/
def execLdCIil (ii : Idx) (s : State) : Result :=
  retire (.ldCIil ii) false (s.set8 .c (s.idxLo ii))

/-- LD D,iiH (R195). -/
def execLdDIih (ii : Idx) (s : State) : Result :=
  retire (.ldDIih ii) false (s.set8 .d (s.idxHi ii))

/-- LD D,iiL (R195). -/
def execLdDIil (ii : Idx) (s : State) : Result :=
  retire (.ldDIil ii) false (s.set8 .d (s.idxLo ii))

/-- LD E,iiH (R195). -/
def execLdEIih (ii : Idx) (s : State) : Result :=
  retire (.ldEIih ii) false (s.set8 .e (s.idxHi ii))

/-- LD E,iiL (R195). -/
def execLdEIil (ii : Idx) (s : State) : Result :=
  retire (.ldEIil ii) false (s.set8 .e (s.idxLo ii))

/-- LD A,iiH (R195). -/
def execLdAIih (ii : Idx) (s : State) : Result :=
  retire (.ldAIih ii) false (s.set8 .a (s.idxHi ii))

/-- LD A,iiL (R195). -/
def execLdAIil (ii : Idx) (s : State) : Result :=
  retire (.ldAIil ii) false (s.set8 .a (s.idxLo ii))

/-- LD iiH,B (R195). -/
def execLdIihB (ii : Idx) (s : State) : Result :=
  retire (.ldIihB ii) false (s.setIdxHi ii (s.get8 .b))

/-- LD iiH,C (R195). -/
def execLdIihC (ii : Idx) (s : State) : Result :=
  retire (.ldIihC ii) false (s.setIdxHi ii (s.get8 .c))

/-- LD iiH,D (R195). -/
def execLdIihD (ii : Idx) (s : State) : Result :=
  retire (.ldIihD ii) false (s.setIdxHi ii (s.get8 .d))

/-- LD iiH,E (R195). -/
def execLdIihE (ii : Idx) (s : State) : Result :=
  retire (.ldIihE ii) false (s.setIdxHi ii (s.get8 .e))

/-- LD iiH,iiH (R195). -/
def execLdIihIih (ii : Idx) (s : State) : Result :=
  retire (.ldIihIih ii) false (s.setIdxHi ii (s.idxHi ii))

/-- LD iiH,iiL (R195). -/
def execLdIihIil (ii : Idx) (s : State) : Result :=
  retire (.ldIihIil ii) false (s.setIdxHi ii (s.idxLo ii))

/-- LD iiH,A (R195). -/
def execLdIihA (ii : Idx) (s : State) : Result :=
  retire (.ldIihA ii) false (s.setIdxHi ii (s.get8 .a))

/-- LD iiL,B (R195). -/
def execLdIilB (ii : Idx) (s : State) : Result :=
  retire (.ldIilB ii) false (s.setIdxLo ii (s.get8 .b))

/-- LD iiL,C (R195). -/
def execLdIilC (ii : Idx) (s : State) : Result :=
  retire (.ldIilC ii) false (s.setIdxLo ii (s.get8 .c))

/-- LD iiL,D (R195). -/
def execLdIilD (ii : Idx) (s : State) : Result :=
  retire (.ldIilD ii) false (s.setIdxLo ii (s.get8 .d))

/-- LD iiL,E (R195). -/
def execLdIilE (ii : Idx) (s : State) : Result :=
  retire (.ldIilE ii) false (s.setIdxLo ii (s.get8 .e))

/-- LD iiL,iiH (R195). -/
def execLdIilIih (ii : Idx) (s : State) : Result :=
  retire (.ldIilIih ii) false (s.setIdxLo ii (s.idxHi ii))

/-- LD iiL,iiL (R195). -/
def execLdIilIil (ii : Idx) (s : State) : Result :=
  retire (.ldIilIil ii) false (s.setIdxLo ii (s.idxLo ii))

/-- LD iiL,A (R195). -/
def execLdIilA (ii : Idx) (s : State) : Result :=
  retire (.ldIilA ii) false (s.setIdxLo ii (s.get8 .a))

/-- LD iiH,n (R196). -/
def execLdIihN (ii : Idx) (n : Byte) (s : State) : Result :=
  retire (.ldIihN ii n) false (s.setIdxHi ii n)

/-- LD iiL,n (R196). -/
def execLdIilN (ii : Idx) (n : Byte) (s : State) : Result :=
  retire (.ldIilN ii n) false (s.setIdxLo ii n)

/-- LD rr,nn (R197). -/
def execLdRrNn (rr : Pair) (nn : Word) (s : State) : Result :=
  retire (.ldRrNn rr nn) false (s.set16 rr nn)

/-- LD ii,nn (R198). -/
def execLdIiNn (ii : Idx) (nn : Word) (s : State) : Result :=
  retire (.ldIiNn ii nn) false (s.setIdx ii nn)

/-- LD HL,(nn) (R199). -/
def execLdHlMemNn (nn : Word) (s : State) : Result :=
  readWord nn s fun v s => retire (.ldHlMemNn nn) false (s.set16 .hl v)

/-- LD rr,(nn) (R200). -/
def execLdRrMemNn (rr : Pair) (nn : Word) (s : State) : Result :=
  readWord nn s fun v s => retire (.ldRrMemNn rr nn) false (s.set16 rr v)

/-- LD ii,(nn) (R201). -/
def execLdIiMemNn (ii : Idx) (nn : Word) (s : State) : Result :=
  readWord nn s fun v s => retire (.ldIiMemNn ii nn) false (s.setIdx ii v)

/-- LD (nn),HL (R202). -/
def execLdMemNnHl (nn : Word) (s : State) : Result :=
  writeWord nn s.hl s fun s => retire (.ldMemNnHl nn) false s

/-- LD (nn),rr (R203). -/
def execLdMemNnRr (rr : Pair) (nn : Word) (s : State) : Result :=
  writeWord nn (s.get16 rr) s fun s => retire (.ldMemNnRr rr nn) false s

/-- LD (nn),ii (R204). -/
def execLdMemNnIi (ii : Idx) (nn : Word) (s : State) : Result :=
  writeWord nn (s.idx ii) s fun s => retire (.ldMemNnIi ii nn) false s

/-- LD SP,HL (R205). -/
def execLdSpHl (s : State) : Result :=
  retire .ldSpHl false (s.set16 .sp s.hl)

/-- LD SP,ii (R206). -/
def execLdSpIi (ii : Idx) (s : State) : Result :=
  retire (.ldSpIi ii) false (s.set16 .sp (s.idx ii))

/-- PUSH qq (R207). -/
def execPushQq (qq : StackPair) (s : State) : Result :=
  push16 (s.getQQ qq) s fun s => retire (.pushQq qq) false s

/-- PUSH ii (R208). -/
def execPushIi (ii : Idx) (s : State) : Result :=
  push16 (s.idx ii) s fun s => retire (.pushIi ii) false s

/-- POP qq (R209). -/
def execPopQq (qq : StackPair) (s : State) : Result :=
  pop16 s fun v s => retire (.popQq qq) false (s.setQQ qq v)

/-- POP AF (R214): R214: A takes the high byte, all eight bits of F the low byte, under every XY_MODE. -/
def execPopAf (s : State) : Result :=
  pop16 s fun v s => retire .popAf false (s.setQQ .af v)

/-- POP ii (R210). -/
def execPopIi (ii : Idx) (s : State) : Result :=
  pop16 s fun v s => retire (.popIi ii) false (s.setIdx ii v)

end Sys2Proof.Machine
end

