-- ==== Sys2Proof/Machine/RotateBit.lean ====
section
/-! DEFINITION. The meanings of rotates, shifts, nibble rotates and bit operations (spec/45_rotate_bit.md R321 to R356).
Each runs with PC and R already past the instruction (40_step_and_microops.md R133, R134) and ends by adding its cost (R136). -/

namespace Sys2Proof.Machine

/-- RLCA (R321). -/
def execRlca (s : State) : Result :=
  retire .rlca false (s.rotateA .rlc)

/-- RRCA (R322). -/
def execRrca (s : State) : Result :=
  retire .rrca false (s.rotateA .rrc)

/-- RLA (R323). -/
def execRla (s : State) : Result :=
  retire .rla false (s.rotateA .rl)

/-- RRA (R324). -/
def execRra (s : State) : Result :=
  retire .rra false (s.rotateA .rr)

/-- RLC r (R326). -/
def execRlcR (r : Reg8) (s : State) : Result :=
  retire (.rlcR r) false ((s.rotFlags .rlc (s.get8 r)).set8 r (rot .rlc (s.get8 r) s.f.c))

/-- RLC (HL) (R326). -/
def execRlcMemHl (s : State) : Result :=
  rotMem .rlc s.hl s fun _ s => retire .rlcMemHl false s

/-- RLC (ii+d) (R326). -/
def execRlcMemIid (ii : Idx) (d : Byte) (s : State) : Result :=
  rotMem .rlc (s.ea ii d) s fun _ s => retire (.rlcMemIid ii d) false s

/-- RLC (ii+d),r (R326). -/
def execRlcMemIidR (ii : Idx) (d : Byte) (r : Reg8) (s : State) : Result :=
  rotMem .rlc (s.ea ii d) s fun v s => retire (.rlcMemIidR ii d r) false (s.set8 r v)

/-- RRC r (R327). -/
def execRrcR (r : Reg8) (s : State) : Result :=
  retire (.rrcR r) false ((s.rotFlags .rrc (s.get8 r)).set8 r (rot .rrc (s.get8 r) s.f.c))

/-- RRC (HL) (R327). -/
def execRrcMemHl (s : State) : Result :=
  rotMem .rrc s.hl s fun _ s => retire .rrcMemHl false s

/-- RRC (ii+d) (R327). -/
def execRrcMemIid (ii : Idx) (d : Byte) (s : State) : Result :=
  rotMem .rrc (s.ea ii d) s fun _ s => retire (.rrcMemIid ii d) false s

/-- RRC (ii+d),r (R327). -/
def execRrcMemIidR (ii : Idx) (d : Byte) (r : Reg8) (s : State) : Result :=
  rotMem .rrc (s.ea ii d) s fun v s => retire (.rrcMemIidR ii d r) false (s.set8 r v)

/-- RL r (R328). -/
def execRlR (r : Reg8) (s : State) : Result :=
  retire (.rlR r) false ((s.rotFlags .rl (s.get8 r)).set8 r (rot .rl (s.get8 r) s.f.c))

/-- RL (HL) (R328). -/
def execRlMemHl (s : State) : Result :=
  rotMem .rl s.hl s fun _ s => retire .rlMemHl false s

/-- RL (ii+d) (R328). -/
def execRlMemIid (ii : Idx) (d : Byte) (s : State) : Result :=
  rotMem .rl (s.ea ii d) s fun _ s => retire (.rlMemIid ii d) false s

/-- RL (ii+d),r (R328). -/
def execRlMemIidR (ii : Idx) (d : Byte) (r : Reg8) (s : State) : Result :=
  rotMem .rl (s.ea ii d) s fun v s => retire (.rlMemIidR ii d r) false (s.set8 r v)

/-- RR r (R329). -/
def execRrR (r : Reg8) (s : State) : Result :=
  retire (.rrR r) false ((s.rotFlags .rr (s.get8 r)).set8 r (rot .rr (s.get8 r) s.f.c))

/-- RR (HL) (R329). -/
def execRrMemHl (s : State) : Result :=
  rotMem .rr s.hl s fun _ s => retire .rrMemHl false s

/-- RR (ii+d) (R329). -/
def execRrMemIid (ii : Idx) (d : Byte) (s : State) : Result :=
  rotMem .rr (s.ea ii d) s fun _ s => retire (.rrMemIid ii d) false s

/-- RR (ii+d),r (R329). -/
def execRrMemIidR (ii : Idx) (d : Byte) (r : Reg8) (s : State) : Result :=
  rotMem .rr (s.ea ii d) s fun v s => retire (.rrMemIidR ii d r) false (s.set8 r v)

/-- SLA r (R330). -/
def execSlaR (r : Reg8) (s : State) : Result :=
  retire (.slaR r) false ((s.rotFlags .sla (s.get8 r)).set8 r (rot .sla (s.get8 r) s.f.c))

/-- SLA (HL) (R330). -/
def execSlaMemHl (s : State) : Result :=
  rotMem .sla s.hl s fun _ s => retire .slaMemHl false s

/-- SLA (ii+d) (R330). -/
def execSlaMemIid (ii : Idx) (d : Byte) (s : State) : Result :=
  rotMem .sla (s.ea ii d) s fun _ s => retire (.slaMemIid ii d) false s

/-- SLA (ii+d),r (R330). -/
def execSlaMemIidR (ii : Idx) (d : Byte) (r : Reg8) (s : State) : Result :=
  rotMem .sla (s.ea ii d) s fun v s => retire (.slaMemIidR ii d r) false (s.set8 r v)

/-- SRA r (R331). -/
def execSraR (r : Reg8) (s : State) : Result :=
  retire (.sraR r) false ((s.rotFlags .sra (s.get8 r)).set8 r (rot .sra (s.get8 r) s.f.c))

/-- SRA (HL) (R331). -/
def execSraMemHl (s : State) : Result :=
  rotMem .sra s.hl s fun _ s => retire .sraMemHl false s

/-- SRA (ii+d) (R331). -/
def execSraMemIid (ii : Idx) (d : Byte) (s : State) : Result :=
  rotMem .sra (s.ea ii d) s fun _ s => retire (.sraMemIid ii d) false s

/-- SRA (ii+d),r (R331). -/
def execSraMemIidR (ii : Idx) (d : Byte) (r : Reg8) (s : State) : Result :=
  rotMem .sra (s.ea ii d) s fun v s => retire (.sraMemIidR ii d r) false (s.set8 r v)

/-- SLL r (R332). -/
def execSllR (r : Reg8) (s : State) : Result :=
  retire (.sllR r) false ((s.rotFlags .sll (s.get8 r)).set8 r (rot .sll (s.get8 r) s.f.c))

/-- SLL (HL) (R332). -/
def execSllMemHl (s : State) : Result :=
  rotMem .sll s.hl s fun _ s => retire .sllMemHl false s

/-- SLL (ii+d) (R332). -/
def execSllMemIid (ii : Idx) (d : Byte) (s : State) : Result :=
  rotMem .sll (s.ea ii d) s fun _ s => retire (.sllMemIid ii d) false s

/-- SLL (ii+d),r (R332). -/
def execSllMemIidR (ii : Idx) (d : Byte) (r : Reg8) (s : State) : Result :=
  rotMem .sll (s.ea ii d) s fun v s => retire (.sllMemIidR ii d r) false (s.set8 r v)

/-- SRL r (R333). -/
def execSrlR (r : Reg8) (s : State) : Result :=
  retire (.srlR r) false ((s.rotFlags .srl (s.get8 r)).set8 r (rot .srl (s.get8 r) s.f.c))

/-- SRL (HL) (R333). -/
def execSrlMemHl (s : State) : Result :=
  rotMem .srl s.hl s fun _ s => retire .srlMemHl false s

/-- SRL (ii+d) (R333). -/
def execSrlMemIid (ii : Idx) (d : Byte) (s : State) : Result :=
  rotMem .srl (s.ea ii d) s fun _ s => retire (.srlMemIid ii d) false s

/-- SRL (ii+d),r (R333). -/
def execSrlMemIidR (ii : Idx) (d : Byte) (r : Reg8) (s : State) : Result :=
  rotMem .srl (s.ea ii d) s fun v s => retire (.srlMemIidR ii d r) false (s.set8 r v)

/-- RLD (R334). -/
def execRld (s : State) : Result :=
  rotateDigitLeft s fun s => retire .rld false s

/-- RRD (R335). -/
def execRrd (s : State) : Result :=
  rotateDigitRight s fun s => retire .rrd false s

/-- BIT b,r (R341). -/
def execBitBR (n : BitVec 3) (r : Reg8) (s : State) : Result :=
  retire (.bitBR n r) false (s.bitTest n (s.get8 r) (.ofByte (s.get8 r)))

/-- BIT b,(HL) (R347). -/
def execBitBMemHl (n : BitVec 3) (s : State) : Result :=
  readByte s.hl s fun v s => retire (.bitBMemHl n) false (s.bitTest n v .drawn)

/-- BIT b,(ii+d) (R348): Every z is one form; z is ignored. -/
def execBitBMemIid (ii : Idx) (d : Byte) (n : BitVec 3) (z : BitVec 3) (s : State) : Result :=
  bitMemIid (s.ea ii d) n s fun s => retire (.bitBMemIid ii d n z) false s

/-- RES b,r (R349). -/
def execResBR (n : BitVec 3) (r : Reg8) (s : State) : Result :=
  retire (.resBR n r) false (s.set8 r (resBit n (s.get8 r)))

/-- RES b,(HL) (R350). -/
def execResBMemHl (n : BitVec 3) (s : State) : Result :=
  modifyByte (resBit n) s.hl s fun _ s => retire (.resBMemHl n) false s

/-- RES b,(ii+d) (R351). -/
def execResBMemIid (ii : Idx) (d : Byte) (n : BitVec 3) (s : State) : Result :=
  modifyByte (resBit n) (s.ea ii d) s fun _ s => retire (.resBMemIid ii d n) false s

/-- RES b,(ii+d),r (R352). -/
def execResBMemIidR (ii : Idx) (d : Byte) (n : BitVec 3) (r : Reg8) (s : State) : Result :=
  modifyByte (resBit n) (s.ea ii d) s fun v s => retire (.resBMemIidR ii d n r) false (s.set8 r v)

/-- SET b,r (R353). -/
def execSetBR (n : BitVec 3) (r : Reg8) (s : State) : Result :=
  retire (.setBR n r) false (s.set8 r (setBit n (s.get8 r)))

/-- SET b,(HL) (R354). -/
def execSetBMemHl (n : BitVec 3) (s : State) : Result :=
  modifyByte (setBit n) s.hl s fun _ s => retire (.setBMemHl n) false s

/-- SET b,(ii+d) (R355). -/
def execSetBMemIid (ii : Idx) (d : Byte) (n : BitVec 3) (s : State) : Result :=
  modifyByte (setBit n) (s.ea ii d) s fun _ s => retire (.setBMemIid ii d n) false s

/-- SET b,(ii+d),r (R356). -/
def execSetBMemIidR (ii : Idx) (d : Byte) (n : BitVec 3) (r : Reg8) (s : State) : Result :=
  modifyByte (setBit n) (s.ea ii d) s fun v s => retire (.setBMemIidR ii d n r) false (s.set8 r v)

end Sys2Proof.Machine
end

