-- ==== Sys2Proof/Machine/Dispatch.lean ====
section
/-! DEFINITION. One arm per constructor of Instr: the execution part of a step after fetch (spec/40_step_and_microops.md R135). -/

namespace Sys2Proof.Machine

def exec (i : Instr) (s : State) : Host.Outcome State Fault Refusal :=
  match i with
  | .ldRrNn rr nn => Sys2Proof.Machine.execLdRrNn rr nn s
  | .incRr rr => Sys2Proof.Machine.execIncRr rr s
  | .decRr rr => Sys2Proof.Machine.execDecRr rr s
  | .incR r => Sys2Proof.Machine.execIncR r s
  | .decR r => Sys2Proof.Machine.execDecR r s
  | .ldRN r n => Sys2Proof.Machine.execLdRN r n s
  | .ldMemHlN n => Sys2Proof.Machine.execLdMemHlN n s
  | .addHlRr rr => Sys2Proof.Machine.execAddHlRr rr s
  | .djnzE e => Sys2Proof.Machine.execDjnzE e s
  | .jrE e => Sys2Proof.Machine.execJrE e s
  | .jrCcE cc e => Sys2Proof.Machine.execJrCcE cc e s
  | .ldMemNnHl nn => Sys2Proof.Machine.execLdMemNnHl nn s
  | .ldHlMemNn nn => Sys2Proof.Machine.execLdHlMemNn nn s
  | .ldMemNnA nn => Sys2Proof.Machine.execLdMemNnA nn s
  | .ldAMemNn nn => Sys2Proof.Machine.execLdAMemNn nn s
  | .ldRR r r' => Sys2Proof.Machine.execLdRR r r' s
  | .ldRMemHl r => Sys2Proof.Machine.execLdRMemHl r s
  | .ldMemHlR r => Sys2Proof.Machine.execLdMemHlR r s
  | .addAR r => Sys2Proof.Machine.execAddAR r s
  | .addAN n => Sys2Proof.Machine.execAddAN n s
  | .adcAR r => Sys2Proof.Machine.execAdcAR r s
  | .adcAN n => Sys2Proof.Machine.execAdcAN n s
  | .subR r => Sys2Proof.Machine.execSubR r s
  | .subN n => Sys2Proof.Machine.execSubN n s
  | .sbcAR r => Sys2Proof.Machine.execSbcAR r s
  | .sbcAN n => Sys2Proof.Machine.execSbcAN n s
  | .andR r => Sys2Proof.Machine.execAndR r s
  | .andN n => Sys2Proof.Machine.execAndN n s
  | .xorR r => Sys2Proof.Machine.execXorR r s
  | .xorN n => Sys2Proof.Machine.execXorN n s
  | .orR r => Sys2Proof.Machine.execOrR r s
  | .orN n => Sys2Proof.Machine.execOrN n s
  | .cpR r => Sys2Proof.Machine.execCpR r s
  | .cpN n => Sys2Proof.Machine.execCpN n s
  | .retCc cc => Sys2Proof.Machine.execRetCc cc s
  | .popQq qq => Sys2Proof.Machine.execPopQq qq s
  | .jpCcNn cc nn => Sys2Proof.Machine.execJpCcNn cc nn s
  | .jpNn nn => Sys2Proof.Machine.execJpNn nn s
  | .callCcNn cc nn => Sys2Proof.Machine.execCallCcNn cc nn s
  | .pushQq qq => Sys2Proof.Machine.execPushQq qq s
  | .rstP y => Sys2Proof.Machine.execRstP y s
  | .callNn nn => Sys2Proof.Machine.execCallNn nn s
  | .outMemNA n => Sys2Proof.Machine.execOutMemNA n s
  | .inAMemN n => Sys2Proof.Machine.execInAMemN n s
  | .rlcR r => Sys2Proof.Machine.execRlcR r s
  | .rrcR r => Sys2Proof.Machine.execRrcR r s
  | .rlR r => Sys2Proof.Machine.execRlR r s
  | .rrR r => Sys2Proof.Machine.execRrR r s
  | .slaR r => Sys2Proof.Machine.execSlaR r s
  | .sraR r => Sys2Proof.Machine.execSraR r s
  | .sllR r => Sys2Proof.Machine.execSllR r s
  | .srlR r => Sys2Proof.Machine.execSrlR r s
  | .bitBR n r => Sys2Proof.Machine.execBitBR n r s
  | .bitBMemHl n => Sys2Proof.Machine.execBitBMemHl n s
  | .resBR n r => Sys2Proof.Machine.execResBR n r s
  | .resBMemHl n => Sys2Proof.Machine.execResBMemHl n s
  | .setBR n r => Sys2Proof.Machine.execSetBR n r s
  | .setBMemHl n => Sys2Proof.Machine.execSetBMemHl n s
  | .inRMemC r => Sys2Proof.Machine.execInRMemC r s
  | .outMemCR r => Sys2Proof.Machine.execOutMemCR r s
  | .sbcHlRr rr => Sys2Proof.Machine.execSbcHlRr rr s
  | .adcHlRr rr => Sys2Proof.Machine.execAdcHlRr rr s
  | .ldMemNnRr rr nn => Sys2Proof.Machine.execLdMemNnRr rr nn s
  | .ldRrMemNn rr nn => Sys2Proof.Machine.execLdRrMemNn rr nn s
  | .negDup y => Sys2Proof.Machine.execNegDup y s
  | .retnDup y => Sys2Proof.Machine.execRetnDup y s
  | .im0Dup y => Sys2Proof.Machine.execIm0Dup y s
  | .unmappedEd op => Sys2Proof.Machine.execUnmappedEd op s
  | .addIiBc ii => Sys2Proof.Machine.execAddIiBc ii s
  | .addIiDe ii => Sys2Proof.Machine.execAddIiDe ii s
  | .addIiIi ii => Sys2Proof.Machine.execAddIiIi ii s
  | .addIiSp ii => Sys2Proof.Machine.execAddIiSp ii s
  | .ldIiNn ii nn => Sys2Proof.Machine.execLdIiNn ii nn s
  | .ldMemNnIi ii nn => Sys2Proof.Machine.execLdMemNnIi ii nn s
  | .incIi ii => Sys2Proof.Machine.execIncIi ii s
  | .ldIiMemNn ii nn => Sys2Proof.Machine.execLdIiMemNn ii nn s
  | .decIi ii => Sys2Proof.Machine.execDecIi ii s
  | .incIih ii => Sys2Proof.Machine.execIncIih ii s
  | .decIih ii => Sys2Proof.Machine.execDecIih ii s
  | .ldIihN ii n => Sys2Proof.Machine.execLdIihN ii n s
  | .incIil ii => Sys2Proof.Machine.execIncIil ii s
  | .decIil ii => Sys2Proof.Machine.execDecIil ii s
  | .ldIilN ii n => Sys2Proof.Machine.execLdIilN ii n s
  | .incMemIid ii d => Sys2Proof.Machine.execIncMemIid ii d s
  | .decMemIid ii d => Sys2Proof.Machine.execDecMemIid ii d s
  | .ldMemIidN ii d n => Sys2Proof.Machine.execLdMemIidN ii d n s
  | .ldBIih ii => Sys2Proof.Machine.execLdBIih ii s
  | .ldBIil ii => Sys2Proof.Machine.execLdBIil ii s
  | .ldBMemIid ii d => Sys2Proof.Machine.execLdBMemIid ii d s
  | .ldCIih ii => Sys2Proof.Machine.execLdCIih ii s
  | .ldCIil ii => Sys2Proof.Machine.execLdCIil ii s
  | .ldCMemIid ii d => Sys2Proof.Machine.execLdCMemIid ii d s
  | .ldDIih ii => Sys2Proof.Machine.execLdDIih ii s
  | .ldDIil ii => Sys2Proof.Machine.execLdDIil ii s
  | .ldDMemIid ii d => Sys2Proof.Machine.execLdDMemIid ii d s
  | .ldEIih ii => Sys2Proof.Machine.execLdEIih ii s
  | .ldEIil ii => Sys2Proof.Machine.execLdEIil ii s
  | .ldEMemIid ii d => Sys2Proof.Machine.execLdEMemIid ii d s
  | .ldIihB ii => Sys2Proof.Machine.execLdIihB ii s
  | .ldIihC ii => Sys2Proof.Machine.execLdIihC ii s
  | .ldIihD ii => Sys2Proof.Machine.execLdIihD ii s
  | .ldIihE ii => Sys2Proof.Machine.execLdIihE ii s
  | .ldIihIih ii => Sys2Proof.Machine.execLdIihIih ii s
  | .ldIihIil ii => Sys2Proof.Machine.execLdIihIil ii s
  | .ldHMemIid ii d => Sys2Proof.Machine.execLdHMemIid ii d s
  | .ldIihA ii => Sys2Proof.Machine.execLdIihA ii s
  | .ldIilB ii => Sys2Proof.Machine.execLdIilB ii s
  | .ldIilC ii => Sys2Proof.Machine.execLdIilC ii s
  | .ldIilD ii => Sys2Proof.Machine.execLdIilD ii s
  | .ldIilE ii => Sys2Proof.Machine.execLdIilE ii s
  | .ldIilIih ii => Sys2Proof.Machine.execLdIilIih ii s
  | .ldIilIil ii => Sys2Proof.Machine.execLdIilIil ii s
  | .ldLMemIid ii d => Sys2Proof.Machine.execLdLMemIid ii d s
  | .ldIilA ii => Sys2Proof.Machine.execLdIilA ii s
  | .ldMemIidB ii d => Sys2Proof.Machine.execLdMemIidB ii d s
  | .ldMemIidC ii d => Sys2Proof.Machine.execLdMemIidC ii d s
  | .ldMemIidD ii d => Sys2Proof.Machine.execLdMemIidD ii d s
  | .ldMemIidE ii d => Sys2Proof.Machine.execLdMemIidE ii d s
  | .ldMemIidH ii d => Sys2Proof.Machine.execLdMemIidH ii d s
  | .ldMemIidL ii d => Sys2Proof.Machine.execLdMemIidL ii d s
  | .ldMemIidA ii d => Sys2Proof.Machine.execLdMemIidA ii d s
  | .ldAIih ii => Sys2Proof.Machine.execLdAIih ii s
  | .ldAIil ii => Sys2Proof.Machine.execLdAIil ii s
  | .ldAMemIid ii d => Sys2Proof.Machine.execLdAMemIid ii d s
  | .addAIih ii => Sys2Proof.Machine.execAddAIih ii s
  | .addAIil ii => Sys2Proof.Machine.execAddAIil ii s
  | .addAMemIid ii d => Sys2Proof.Machine.execAddAMemIid ii d s
  | .adcAIih ii => Sys2Proof.Machine.execAdcAIih ii s
  | .adcAIil ii => Sys2Proof.Machine.execAdcAIil ii s
  | .adcAMemIid ii d => Sys2Proof.Machine.execAdcAMemIid ii d s
  | .subIih ii => Sys2Proof.Machine.execSubIih ii s
  | .subIil ii => Sys2Proof.Machine.execSubIil ii s
  | .subMemIid ii d => Sys2Proof.Machine.execSubMemIid ii d s
  | .sbcAIih ii => Sys2Proof.Machine.execSbcAIih ii s
  | .sbcAIil ii => Sys2Proof.Machine.execSbcAIil ii s
  | .sbcAMemIid ii d => Sys2Proof.Machine.execSbcAMemIid ii d s
  | .andIih ii => Sys2Proof.Machine.execAndIih ii s
  | .andIil ii => Sys2Proof.Machine.execAndIil ii s
  | .andMemIid ii d => Sys2Proof.Machine.execAndMemIid ii d s
  | .xorIih ii => Sys2Proof.Machine.execXorIih ii s
  | .xorIil ii => Sys2Proof.Machine.execXorIil ii s
  | .xorMemIid ii d => Sys2Proof.Machine.execXorMemIid ii d s
  | .orIih ii => Sys2Proof.Machine.execOrIih ii s
  | .orIil ii => Sys2Proof.Machine.execOrIil ii s
  | .orMemIid ii d => Sys2Proof.Machine.execOrMemIid ii d s
  | .cpIih ii => Sys2Proof.Machine.execCpIih ii s
  | .cpIil ii => Sys2Proof.Machine.execCpIil ii s
  | .cpMemIid ii d => Sys2Proof.Machine.execCpMemIid ii d s
  | .popIi ii => Sys2Proof.Machine.execPopIi ii s
  | .exMemSpIi ii => Sys2Proof.Machine.execExMemSpIi ii s
  | .pushIi ii => Sys2Proof.Machine.execPushIi ii s
  | .jpIi ii => Sys2Proof.Machine.execJpIi ii s
  | .ldSpIi ii => Sys2Proof.Machine.execLdSpIi ii s
  | .lonePrefix ii => Sys2Proof.Machine.execLonePrefix ii s
  | .rlcMemIid ii d => Sys2Proof.Machine.execRlcMemIid ii d s
  | .rlcMemIidR ii d r => Sys2Proof.Machine.execRlcMemIidR ii d r s
  | .rrcMemIid ii d => Sys2Proof.Machine.execRrcMemIid ii d s
  | .rrcMemIidR ii d r => Sys2Proof.Machine.execRrcMemIidR ii d r s
  | .rlMemIid ii d => Sys2Proof.Machine.execRlMemIid ii d s
  | .rlMemIidR ii d r => Sys2Proof.Machine.execRlMemIidR ii d r s
  | .rrMemIid ii d => Sys2Proof.Machine.execRrMemIid ii d s
  | .rrMemIidR ii d r => Sys2Proof.Machine.execRrMemIidR ii d r s
  | .slaMemIid ii d => Sys2Proof.Machine.execSlaMemIid ii d s
  | .slaMemIidR ii d r => Sys2Proof.Machine.execSlaMemIidR ii d r s
  | .sraMemIid ii d => Sys2Proof.Machine.execSraMemIid ii d s
  | .sraMemIidR ii d r => Sys2Proof.Machine.execSraMemIidR ii d r s
  | .sllMemIid ii d => Sys2Proof.Machine.execSllMemIid ii d s
  | .sllMemIidR ii d r => Sys2Proof.Machine.execSllMemIidR ii d r s
  | .srlMemIid ii d => Sys2Proof.Machine.execSrlMemIid ii d s
  | .srlMemIidR ii d r => Sys2Proof.Machine.execSrlMemIidR ii d r s
  | .bitBMemIid ii d n z => Sys2Proof.Machine.execBitBMemIid ii d n z s
  | .resBMemIid ii d n => Sys2Proof.Machine.execResBMemIid ii d n s
  | .resBMemIidR ii d n r => Sys2Proof.Machine.execResBMemIidR ii d n r s
  | .setBMemIid ii d n => Sys2Proof.Machine.execSetBMemIid ii d n s
  | .setBMemIidR ii d n r => Sys2Proof.Machine.execSetBMemIidR ii d n r s
  | .nop => Sys2Proof.Machine.execNop s
  | .ldMemBcA => Sys2Proof.Machine.execLdMemBcA s
  | .ldMemDeA => Sys2Proof.Machine.execLdMemDeA s
  | .incMemHl => Sys2Proof.Machine.execIncMemHl s
  | .decMemHl => Sys2Proof.Machine.execDecMemHl s
  | .rlca => Sys2Proof.Machine.execRlca s
  | .rrca => Sys2Proof.Machine.execRrca s
  | .rla => Sys2Proof.Machine.execRla s
  | .rra => Sys2Proof.Machine.execRra s
  | .exAfAf => Sys2Proof.Machine.execExAfAf s
  | .ldAMemBc => Sys2Proof.Machine.execLdAMemBc s
  | .ldAMemDe => Sys2Proof.Machine.execLdAMemDe s
  | .daa => Sys2Proof.Machine.execDaa s
  | .cpl => Sys2Proof.Machine.execCpl s
  | .scf => Sys2Proof.Machine.execScf s
  | .ccf => Sys2Proof.Machine.execCcf s
  | .halt => Sys2Proof.Machine.execHalt s
  | .addAMemHl => Sys2Proof.Machine.execAddAMemHl s
  | .adcAMemHl => Sys2Proof.Machine.execAdcAMemHl s
  | .subMemHl => Sys2Proof.Machine.execSubMemHl s
  | .sbcAMemHl => Sys2Proof.Machine.execSbcAMemHl s
  | .andMemHl => Sys2Proof.Machine.execAndMemHl s
  | .xorMemHl => Sys2Proof.Machine.execXorMemHl s
  | .orMemHl => Sys2Proof.Machine.execOrMemHl s
  | .cpMemHl => Sys2Proof.Machine.execCpMemHl s
  | .popAf => Sys2Proof.Machine.execPopAf s
  | .ret => Sys2Proof.Machine.execRet s
  | .exx => Sys2Proof.Machine.execExx s
  | .exMemSpHl => Sys2Proof.Machine.execExMemSpHl s
  | .jpHl => Sys2Proof.Machine.execJpHl s
  | .exDeHl => Sys2Proof.Machine.execExDeHl s
  | .di => Sys2Proof.Machine.execDi s
  | .ldSpHl => Sys2Proof.Machine.execLdSpHl s
  | .ei => Sys2Proof.Machine.execEi s
  | .rlcMemHl => Sys2Proof.Machine.execRlcMemHl s
  | .rrcMemHl => Sys2Proof.Machine.execRrcMemHl s
  | .rlMemHl => Sys2Proof.Machine.execRlMemHl s
  | .rrMemHl => Sys2Proof.Machine.execRrMemHl s
  | .slaMemHl => Sys2Proof.Machine.execSlaMemHl s
  | .sraMemHl => Sys2Proof.Machine.execSraMemHl s
  | .sllMemHl => Sys2Proof.Machine.execSllMemHl s
  | .srlMemHl => Sys2Proof.Machine.execSrlMemHl s
  | .inMemC => Sys2Proof.Machine.execInMemC s
  | .outMemC0 => Sys2Proof.Machine.execOutMemC0 s
  | .neg => Sys2Proof.Machine.execNeg s
  | .retn => Sys2Proof.Machine.execRetn s
  | .reti => Sys2Proof.Machine.execReti s
  | .im0 => Sys2Proof.Machine.execIm0 s
  | .im1 => Sys2Proof.Machine.execIm1 s
  | .im1Dup => Sys2Proof.Machine.execIm1Dup s
  | .im2 => Sys2Proof.Machine.execIm2 s
  | .im2Dup => Sys2Proof.Machine.execIm2Dup s
  | .ldIA => Sys2Proof.Machine.execLdIA s
  | .ldRegRA => Sys2Proof.Machine.execLdRegRA s
  | .ldAI => Sys2Proof.Machine.execLdAI s
  | .ldARegR => Sys2Proof.Machine.execLdARegR s
  | .rrd => Sys2Proof.Machine.execRrd s
  | .rld => Sys2Proof.Machine.execRld s
  | .ldi => Sys2Proof.Machine.execLdi s
  | .ldd => Sys2Proof.Machine.execLdd s
  | .ldir => Sys2Proof.Machine.execLdir s
  | .lddr => Sys2Proof.Machine.execLddr s
  | .cpi => Sys2Proof.Machine.execCpi s
  | .cpd => Sys2Proof.Machine.execCpd s
  | .cpir => Sys2Proof.Machine.execCpir s
  | .cpdr => Sys2Proof.Machine.execCpdr s
  | .ini => Sys2Proof.Machine.execIni s
  | .ind => Sys2Proof.Machine.execInd s
  | .inir => Sys2Proof.Machine.execInir s
  | .indr => Sys2Proof.Machine.execIndr s
  | .outi => Sys2Proof.Machine.execOuti s
  | .outd => Sys2Proof.Machine.execOutd s
  | .otir => Sys2Proof.Machine.execOtir s
  | .otdr => Sys2Proof.Machine.execOtdr s

end Sys2Proof.Machine
end

