-- ==== Sys2Proof/Machine/Fetch.lean ====
section
/-! DEFINITION. Fetch (spec/40_step_and_microops.md R133, R134): the instruction at PC, its memory accesses, and the advance of PC and
R; and the placing of an instruction where the next step fetches. -/

namespace Sys2Proof.Machine

/-- The instruction the four bytes from PC on select (30_encoding.md R118). -/
def State.fetched (s : State) : Instr :=
  decodeBytes (s.peek s.pc) (s.peek (s.pc + 1)) (s.peek (s.pc + 2)) (s.peek (s.pc + 3))

/-- The accesses of `n` instruction bytes, in ascending order from an address (R133). -/
def accessBytes : Nat → Word → State → (State → Result) → Result
  | 0, _, s, k => k s
  | n + 1, a, s, k => andThen (access a s) fun s => accessBytes n (a + 1) s k

/-- PC past the instruction, R past its opcode fetches (R133, R134). -/
def State.advance (s : State) (i : Instr) : State :=
  { s with pc := s.pc + BitVec.ofNat 16 i.length, r := rInc s.r (opcodeFetches i) }

/-- Fetch: every byte of the instruction is read before anything else happens (R133, R80).  The byte after a lone DD or FD belongs to
the next instruction and is no access of this one (log entry 10). -/
def fetch (s : State) (k : Instr → State → Result) : Result :=
  accessBytes s.fetched.length s.pc s fun t => k s.fetched (t.advance s.fetched)

/-- The four bytes of a table word stored at PC, PC + 1, PC + 2, PC + 3, with the core running and memory not failing, so that the
next step fetches exactly that instruction (log entry 11). -/
def State.placeWord (s : State) (nbits w : Nat) : State :=
  let t := { s with halted := false, params := { s.params with memFault := false } }
  (((t.poke t.pc (tableByte nbits w 0)).poke (t.pc + 1) (tableByte nbits w 1)).poke (t.pc + 2) (tableByte nbits w 2)).poke
    (t.pc + 3) (tableByte nbits w 3)

end Sys2Proof.Machine
end

