-- ==== Sys2Proof/Machine/HostActions.lean ====
section
/-! DEFINITION. What the host does between steps (spec/60_exceptions.md R452 to R454; 70_reset_and_hazards.md R471, R472;
20_memory.md R69). -/

namespace Sys2Proof.Machine

/-- `reset()`: the core's record as after reset; memory, the traces and the parameters stay (R471, R472); `draws` goes on. -/
def State.hostReset (s : State) : State :=
  { State.reset with mem := s.mem, io := s.io, diag := s.diag, params := s.params, draws := s.draws }

/-- `loadProgram(bytes, start)`: bytes upward from `start`, wrapping; no register changes (20_memory.md R69, 70_reset_and_hazards.md R476).
DESIGN CHOICE, unsafe under `MEM_FAULT = true` (log entry 16): the spec defines a memory fault only as the end of a step (R68, R432) and
does not say what a failing write does here; the model's load never fails. -/
def State.loadProgram (s : State) : List Byte → Word → State
  | [], _ => s
  | v :: vs, a => State.loadProgram (s.poke a v) vs (a + 1)

/-- `setInterruptLine(active)` (R453). -/
def State.setInterruptLine (s : State) (active : Bool) : State := { s with intPending := active }

/-- The NMI flag, which the host sets or withdraws (R454). -/
def State.setNmi (s : State) (active : Bool) : State := { s with nmiPending := active }

/-- A memory write by the host or another bus master (10_state.md R46, 20_memory.md R77); it never fails (log entry 16). -/
def State.hostWrite (s : State) (a : Word) (v : Byte) : State := s.poke a v

end Sys2Proof.Machine
end

