-- ==== Sys2Proof/Machine/Interrupt.lean ====
section
/-! DEFINITION. The interrupt check that ends every step (spec/60_exceptions.md R434 to R437). -/

namespace Sys2Proof.Machine

/-- Whether a maskable interrupt is accepted when no NMI is pending (R441, R436). -/
def State.intAccepted (s : State) : Bool :=
  s.iff1 && s.intPending && !(s.intBlock == .afterEI && s.params.eiDelay)

/-- `InterruptCheck(was_halted)` (R434): nothing after a lone DD or FD, NMI before the maskable interrupt (R435), else the halt cost in
a step that began halted (R132). -/
def interruptCheck (wasHalted : Bool) (s : State) : Result :=
  if s.intBlock = .afterPrefix then .next s
  else if s.nmiPending then acceptNmi s
  else if s.intAccepted then acceptInt s
  else if wasHalted then .next (s.spend (haltCost s.params.costs))
  else .next s

end Sys2Proof.Machine
end

