-- ==== Sys2Proof/Machine/Step.lean ====
section
/-! DEFINITION. `step()` (spec/40_step_and_microops.md R131, R132), and an instruction placed where the next step fetches. -/

namespace Sys2Proof.Machine

/-- One step: clear `int_block`; a running core fetches, advances PC and R, executes and pays; then the interrupt check (R131). -/
def step (s : State) : Host.Outcome State Fault Refusal :=
  if s.halted then interruptCheck true { s with intBlock := .none }
  else fetch { s with intBlock := .none } fun i t => andThen (exec i t) (interruptCheck false)

/-- `s` with the instruction of a table word stored at PC, where `step` fetches. -/
def State.withFetchWord (s : State) (nbits w : Nat) : State := s.placeWord nbits w

end Sys2Proof.Machine
end

