-- ==== Sys2Proof/Laws/PerInstr.lean ====
section
/-! SUPPORT. A statement about each instruction as syntax, one lemma per constructor: its bytes, their number, its opcode fetches. -/

namespace Sys2Proof.Laws.EncodedBytes

open Sys2Proof Sys2Proof.Machine

/-- The opcode fetches a byte string needs (40_step_and_microops.md R134): 2 after CB, ED, and after DD or FD unless that byte is
alone; else 1. -/
def fetches : List Byte → Nat
  | b :: rest =>
    if b == 0xCB || b == 0xED then 2
    else if b == 0xDD || b == 0xFD then (if rest.length == 0 then 1 else 2)
    else 1
  | [] => 0

/-- The instruction has as many bytes as its length says, one to four of them (30_encoding.md R91), and as many opcode fetches as they
need (R134). -/
def Statement (i : Instr) : Prop :=
  (encode i).length = i.length ∧ 1 ≤ i.length ∧ i.length ≤ 4 ∧ opcodeFetches i = fetches (encode i)

/-- `Statement` as a check that evaluates. -/
def lawful (i : Instr) : Bool :=
  (encode i).length == i.length && Nat.ble 1 i.length && Nat.ble i.length 4 && opcodeFetches i == fetches (encode i)

theorem lawful_of {i : Instr} (h : lawful i = true) : Statement i := by
  simpa [lawful, Statement, and_assoc] using h

theorem ldRrNn (rr : Pair) (nn : Word) : Statement (.ldRrNn rr nn) := by cases rr <;> exact lawful_of rfl
theorem incRr (rr : Pair) : Statement (.incRr rr) := by cases rr <;> exact lawful_of rfl
theorem decRr (rr : Pair) : Statement (.decRr rr) := by cases rr <;> exact lawful_of rfl
theorem incR (r : Reg8) : Statement (.incR r) := by cases r <;> exact lawful_of rfl
theorem decR (r : Reg8) : Statement (.decR r) := by cases r <;> exact lawful_of rfl
theorem ldRN (r : Reg8) (n : Byte) : Statement (.ldRN r n) := by cases r <;> exact lawful_of rfl
theorem ldMemHlN (n : Byte) : Statement (.ldMemHlN n) := lawful_of rfl
theorem addHlRr (rr : Pair) : Statement (.addHlRr rr) := by cases rr <;> exact lawful_of rfl
theorem djnzE (e : Byte) : Statement (.djnzE e) := lawful_of rfl
theorem jrE (e : Byte) : Statement (.jrE e) := lawful_of rfl
theorem jrCcE (cc : Cond) (e : Byte) : Statement (.jrCcE cc e) := by cases cc <;> exact lawful_of rfl
theorem ldMemNnHl (nn : Word) : Statement (.ldMemNnHl nn) := lawful_of rfl
theorem ldHlMemNn (nn : Word) : Statement (.ldHlMemNn nn) := lawful_of rfl
theorem ldMemNnA (nn : Word) : Statement (.ldMemNnA nn) := lawful_of rfl
theorem ldAMemNn (nn : Word) : Statement (.ldAMemNn nn) := lawful_of rfl
theorem ldRR (r : Reg8) (r' : Reg8) : Statement (.ldRR r r') := by cases r <;> cases r' <;> exact lawful_of rfl
theorem ldRMemHl (r : Reg8) : Statement (.ldRMemHl r) := by cases r <;> exact lawful_of rfl
theorem ldMemHlR (r : Reg8) : Statement (.ldMemHlR r) := by cases r <;> exact lawful_of rfl
theorem addAR (r : Reg8) : Statement (.addAR r) := by cases r <;> exact lawful_of rfl
theorem addAN (n : Byte) : Statement (.addAN n) := lawful_of rfl
theorem adcAR (r : Reg8) : Statement (.adcAR r) := by cases r <;> exact lawful_of rfl
theorem adcAN (n : Byte) : Statement (.adcAN n) := lawful_of rfl
theorem subR (r : Reg8) : Statement (.subR r) := by cases r <;> exact lawful_of rfl
theorem subN (n : Byte) : Statement (.subN n) := lawful_of rfl
theorem sbcAR (r : Reg8) : Statement (.sbcAR r) := by cases r <;> exact lawful_of rfl
theorem sbcAN (n : Byte) : Statement (.sbcAN n) := lawful_of rfl
theorem andR (r : Reg8) : Statement (.andR r) := by cases r <;> exact lawful_of rfl
theorem andN (n : Byte) : Statement (.andN n) := lawful_of rfl
theorem xorR (r : Reg8) : Statement (.xorR r) := by cases r <;> exact lawful_of rfl
theorem xorN (n : Byte) : Statement (.xorN n) := lawful_of rfl
theorem orR (r : Reg8) : Statement (.orR r) := by cases r <;> exact lawful_of rfl
theorem orN (n : Byte) : Statement (.orN n) := lawful_of rfl
theorem cpR (r : Reg8) : Statement (.cpR r) := by cases r <;> exact lawful_of rfl
theorem cpN (n : Byte) : Statement (.cpN n) := lawful_of rfl
theorem retCc (cc : Cond) : Statement (.retCc cc) := by cases cc <;> exact lawful_of rfl
theorem popQq (qq : StackPair) : Statement (.popQq qq) := by cases qq <;> exact lawful_of rfl
theorem jpCcNn (cc : Cond) (nn : Word) : Statement (.jpCcNn cc nn) := by cases cc <;> exact lawful_of rfl
theorem jpNn (nn : Word) : Statement (.jpNn nn) := lawful_of rfl
theorem callCcNn (cc : Cond) (nn : Word) : Statement (.callCcNn cc nn) := by cases cc <;> exact lawful_of rfl
theorem pushQq (qq : StackPair) : Statement (.pushQq qq) := by cases qq <;> exact lawful_of rfl
theorem rstP (y : BitVec 3) : Statement (.rstP y) := lawful_of (by revert y; decide)
theorem callNn (nn : Word) : Statement (.callNn nn) := lawful_of rfl
theorem outMemNA (n : Byte) : Statement (.outMemNA n) := lawful_of rfl
theorem inAMemN (n : Byte) : Statement (.inAMemN n) := lawful_of rfl
theorem rlcR (r : Reg8) : Statement (.rlcR r) := lawful_of rfl
theorem rrcR (r : Reg8) : Statement (.rrcR r) := lawful_of rfl
theorem rlR (r : Reg8) : Statement (.rlR r) := lawful_of rfl
theorem rrR (r : Reg8) : Statement (.rrR r) := lawful_of rfl
theorem slaR (r : Reg8) : Statement (.slaR r) := lawful_of rfl
theorem sraR (r : Reg8) : Statement (.sraR r) := lawful_of rfl
theorem sllR (r : Reg8) : Statement (.sllR r) := lawful_of rfl
theorem srlR (r : Reg8) : Statement (.srlR r) := lawful_of rfl
theorem bitBR (n : BitVec 3) (r : Reg8) : Statement (.bitBR n r) := lawful_of rfl
theorem bitBMemHl (n : BitVec 3) : Statement (.bitBMemHl n) := lawful_of rfl
theorem resBR (n : BitVec 3) (r : Reg8) : Statement (.resBR n r) := lawful_of rfl
theorem resBMemHl (n : BitVec 3) : Statement (.resBMemHl n) := lawful_of rfl
theorem setBR (n : BitVec 3) (r : Reg8) : Statement (.setBR n r) := lawful_of rfl
theorem setBMemHl (n : BitVec 3) : Statement (.setBMemHl n) := lawful_of rfl
theorem inRMemC (r : Reg8) : Statement (.inRMemC r) := lawful_of rfl
theorem outMemCR (r : Reg8) : Statement (.outMemCR r) := lawful_of rfl
theorem sbcHlRr (rr : Pair) : Statement (.sbcHlRr rr) := lawful_of rfl
theorem adcHlRr (rr : Pair) : Statement (.adcHlRr rr) := lawful_of rfl
theorem ldMemNnRr (rr : Pair) (nn : Word) : Statement (.ldMemNnRr rr nn) := lawful_of rfl
theorem ldRrMemNn (rr : Pair) (nn : Word) : Statement (.ldRrMemNn rr nn) := lawful_of rfl
theorem negDup (y : BitVec 3) : Statement (.negDup y) := lawful_of rfl
theorem retnDup (y : BitVec 3) : Statement (.retnDup y) := lawful_of rfl
theorem im0Dup (y : BitVec 3) : Statement (.im0Dup y) := lawful_of rfl
theorem unmappedEd (op : Byte) : Statement (.unmappedEd op) := lawful_of rfl
theorem addIiBc (ii : Idx) : Statement (.addIiBc ii) := by cases ii <;> exact lawful_of rfl
theorem addIiDe (ii : Idx) : Statement (.addIiDe ii) := by cases ii <;> exact lawful_of rfl
theorem addIiIi (ii : Idx) : Statement (.addIiIi ii) := by cases ii <;> exact lawful_of rfl
theorem addIiSp (ii : Idx) : Statement (.addIiSp ii) := by cases ii <;> exact lawful_of rfl
theorem ldIiNn (ii : Idx) (nn : Word) : Statement (.ldIiNn ii nn) := by cases ii <;> exact lawful_of rfl
theorem ldMemNnIi (ii : Idx) (nn : Word) : Statement (.ldMemNnIi ii nn) := by cases ii <;> exact lawful_of rfl
theorem incIi (ii : Idx) : Statement (.incIi ii) := by cases ii <;> exact lawful_of rfl
theorem ldIiMemNn (ii : Idx) (nn : Word) : Statement (.ldIiMemNn ii nn) := by cases ii <;> exact lawful_of rfl
theorem decIi (ii : Idx) : Statement (.decIi ii) := by cases ii <;> exact lawful_of rfl
theorem incIih (ii : Idx) : Statement (.incIih ii) := by cases ii <;> exact lawful_of rfl
theorem decIih (ii : Idx) : Statement (.decIih ii) := by cases ii <;> exact lawful_of rfl
theorem ldIihN (ii : Idx) (n : Byte) : Statement (.ldIihN ii n) := by cases ii <;> exact lawful_of rfl
theorem incIil (ii : Idx) : Statement (.incIil ii) := by cases ii <;> exact lawful_of rfl
theorem decIil (ii : Idx) : Statement (.decIil ii) := by cases ii <;> exact lawful_of rfl
theorem ldIilN (ii : Idx) (n : Byte) : Statement (.ldIilN ii n) := by cases ii <;> exact lawful_of rfl
theorem incMemIid (ii : Idx) (d : Byte) : Statement (.incMemIid ii d) := by cases ii <;> exact lawful_of rfl
theorem decMemIid (ii : Idx) (d : Byte) : Statement (.decMemIid ii d) := by cases ii <;> exact lawful_of rfl
theorem ldMemIidN (ii : Idx) (d : Byte) (n : Byte) : Statement (.ldMemIidN ii d n) := by cases ii <;> exact lawful_of rfl
theorem ldBIih (ii : Idx) : Statement (.ldBIih ii) := by cases ii <;> exact lawful_of rfl
theorem ldBIil (ii : Idx) : Statement (.ldBIil ii) := by cases ii <;> exact lawful_of rfl
theorem ldBMemIid (ii : Idx) (d : Byte) : Statement (.ldBMemIid ii d) := by cases ii <;> exact lawful_of rfl
theorem ldCIih (ii : Idx) : Statement (.ldCIih ii) := by cases ii <;> exact lawful_of rfl
theorem ldCIil (ii : Idx) : Statement (.ldCIil ii) := by cases ii <;> exact lawful_of rfl
theorem ldCMemIid (ii : Idx) (d : Byte) : Statement (.ldCMemIid ii d) := by cases ii <;> exact lawful_of rfl
theorem ldDIih (ii : Idx) : Statement (.ldDIih ii) := by cases ii <;> exact lawful_of rfl
theorem ldDIil (ii : Idx) : Statement (.ldDIil ii) := by cases ii <;> exact lawful_of rfl
theorem ldDMemIid (ii : Idx) (d : Byte) : Statement (.ldDMemIid ii d) := by cases ii <;> exact lawful_of rfl
theorem ldEIih (ii : Idx) : Statement (.ldEIih ii) := by cases ii <;> exact lawful_of rfl
theorem ldEIil (ii : Idx) : Statement (.ldEIil ii) := by cases ii <;> exact lawful_of rfl
theorem ldEMemIid (ii : Idx) (d : Byte) : Statement (.ldEMemIid ii d) := by cases ii <;> exact lawful_of rfl
theorem ldIihB (ii : Idx) : Statement (.ldIihB ii) := by cases ii <;> exact lawful_of rfl
theorem ldIihC (ii : Idx) : Statement (.ldIihC ii) := by cases ii <;> exact lawful_of rfl
theorem ldIihD (ii : Idx) : Statement (.ldIihD ii) := by cases ii <;> exact lawful_of rfl
theorem ldIihE (ii : Idx) : Statement (.ldIihE ii) := by cases ii <;> exact lawful_of rfl
theorem ldIihIih (ii : Idx) : Statement (.ldIihIih ii) := by cases ii <;> exact lawful_of rfl
theorem ldIihIil (ii : Idx) : Statement (.ldIihIil ii) := by cases ii <;> exact lawful_of rfl
theorem ldHMemIid (ii : Idx) (d : Byte) : Statement (.ldHMemIid ii d) := by cases ii <;> exact lawful_of rfl
theorem ldIihA (ii : Idx) : Statement (.ldIihA ii) := by cases ii <;> exact lawful_of rfl
theorem ldIilB (ii : Idx) : Statement (.ldIilB ii) := by cases ii <;> exact lawful_of rfl
theorem ldIilC (ii : Idx) : Statement (.ldIilC ii) := by cases ii <;> exact lawful_of rfl
theorem ldIilD (ii : Idx) : Statement (.ldIilD ii) := by cases ii <;> exact lawful_of rfl
theorem ldIilE (ii : Idx) : Statement (.ldIilE ii) := by cases ii <;> exact lawful_of rfl
theorem ldIilIih (ii : Idx) : Statement (.ldIilIih ii) := by cases ii <;> exact lawful_of rfl
theorem ldIilIil (ii : Idx) : Statement (.ldIilIil ii) := by cases ii <;> exact lawful_of rfl
theorem ldLMemIid (ii : Idx) (d : Byte) : Statement (.ldLMemIid ii d) := by cases ii <;> exact lawful_of rfl
theorem ldIilA (ii : Idx) : Statement (.ldIilA ii) := by cases ii <;> exact lawful_of rfl
theorem ldMemIidB (ii : Idx) (d : Byte) : Statement (.ldMemIidB ii d) := by cases ii <;> exact lawful_of rfl
theorem ldMemIidC (ii : Idx) (d : Byte) : Statement (.ldMemIidC ii d) := by cases ii <;> exact lawful_of rfl
theorem ldMemIidD (ii : Idx) (d : Byte) : Statement (.ldMemIidD ii d) := by cases ii <;> exact lawful_of rfl
theorem ldMemIidE (ii : Idx) (d : Byte) : Statement (.ldMemIidE ii d) := by cases ii <;> exact lawful_of rfl
theorem ldMemIidH (ii : Idx) (d : Byte) : Statement (.ldMemIidH ii d) := by cases ii <;> exact lawful_of rfl
theorem ldMemIidL (ii : Idx) (d : Byte) : Statement (.ldMemIidL ii d) := by cases ii <;> exact lawful_of rfl
theorem ldMemIidA (ii : Idx) (d : Byte) : Statement (.ldMemIidA ii d) := by cases ii <;> exact lawful_of rfl
theorem ldAIih (ii : Idx) : Statement (.ldAIih ii) := by cases ii <;> exact lawful_of rfl
theorem ldAIil (ii : Idx) : Statement (.ldAIil ii) := by cases ii <;> exact lawful_of rfl
theorem ldAMemIid (ii : Idx) (d : Byte) : Statement (.ldAMemIid ii d) := by cases ii <;> exact lawful_of rfl
theorem addAIih (ii : Idx) : Statement (.addAIih ii) := by cases ii <;> exact lawful_of rfl
theorem addAIil (ii : Idx) : Statement (.addAIil ii) := by cases ii <;> exact lawful_of rfl
theorem addAMemIid (ii : Idx) (d : Byte) : Statement (.addAMemIid ii d) := by cases ii <;> exact lawful_of rfl
theorem adcAIih (ii : Idx) : Statement (.adcAIih ii) := by cases ii <;> exact lawful_of rfl
theorem adcAIil (ii : Idx) : Statement (.adcAIil ii) := by cases ii <;> exact lawful_of rfl
theorem adcAMemIid (ii : Idx) (d : Byte) : Statement (.adcAMemIid ii d) := by cases ii <;> exact lawful_of rfl
theorem subIih (ii : Idx) : Statement (.subIih ii) := by cases ii <;> exact lawful_of rfl
theorem subIil (ii : Idx) : Statement (.subIil ii) := by cases ii <;> exact lawful_of rfl
theorem subMemIid (ii : Idx) (d : Byte) : Statement (.subMemIid ii d) := by cases ii <;> exact lawful_of rfl
theorem sbcAIih (ii : Idx) : Statement (.sbcAIih ii) := by cases ii <;> exact lawful_of rfl
theorem sbcAIil (ii : Idx) : Statement (.sbcAIil ii) := by cases ii <;> exact lawful_of rfl
theorem sbcAMemIid (ii : Idx) (d : Byte) : Statement (.sbcAMemIid ii d) := by cases ii <;> exact lawful_of rfl
theorem andIih (ii : Idx) : Statement (.andIih ii) := by cases ii <;> exact lawful_of rfl
theorem andIil (ii : Idx) : Statement (.andIil ii) := by cases ii <;> exact lawful_of rfl
theorem andMemIid (ii : Idx) (d : Byte) : Statement (.andMemIid ii d) := by cases ii <;> exact lawful_of rfl
theorem xorIih (ii : Idx) : Statement (.xorIih ii) := by cases ii <;> exact lawful_of rfl
theorem xorIil (ii : Idx) : Statement (.xorIil ii) := by cases ii <;> exact lawful_of rfl
theorem xorMemIid (ii : Idx) (d : Byte) : Statement (.xorMemIid ii d) := by cases ii <;> exact lawful_of rfl
theorem orIih (ii : Idx) : Statement (.orIih ii) := by cases ii <;> exact lawful_of rfl
theorem orIil (ii : Idx) : Statement (.orIil ii) := by cases ii <;> exact lawful_of rfl
theorem orMemIid (ii : Idx) (d : Byte) : Statement (.orMemIid ii d) := by cases ii <;> exact lawful_of rfl
theorem cpIih (ii : Idx) : Statement (.cpIih ii) := by cases ii <;> exact lawful_of rfl
theorem cpIil (ii : Idx) : Statement (.cpIil ii) := by cases ii <;> exact lawful_of rfl
theorem cpMemIid (ii : Idx) (d : Byte) : Statement (.cpMemIid ii d) := by cases ii <;> exact lawful_of rfl
theorem popIi (ii : Idx) : Statement (.popIi ii) := by cases ii <;> exact lawful_of rfl
theorem exMemSpIi (ii : Idx) : Statement (.exMemSpIi ii) := by cases ii <;> exact lawful_of rfl
theorem pushIi (ii : Idx) : Statement (.pushIi ii) := by cases ii <;> exact lawful_of rfl
theorem jpIi (ii : Idx) : Statement (.jpIi ii) := by cases ii <;> exact lawful_of rfl
theorem ldSpIi (ii : Idx) : Statement (.ldSpIi ii) := by cases ii <;> exact lawful_of rfl
theorem lonePrefix (ii : Idx) : Statement (.lonePrefix ii) := by cases ii <;> exact lawful_of rfl
theorem rlcMemIid (ii : Idx) (d : Byte) : Statement (.rlcMemIid ii d) := by cases ii <;> exact lawful_of rfl
theorem rlcMemIidR (ii : Idx) (d : Byte) (r : Reg8) : Statement (.rlcMemIidR ii d r) := by cases ii <;> exact lawful_of rfl
theorem rrcMemIid (ii : Idx) (d : Byte) : Statement (.rrcMemIid ii d) := by cases ii <;> exact lawful_of rfl
theorem rrcMemIidR (ii : Idx) (d : Byte) (r : Reg8) : Statement (.rrcMemIidR ii d r) := by cases ii <;> exact lawful_of rfl
theorem rlMemIid (ii : Idx) (d : Byte) : Statement (.rlMemIid ii d) := by cases ii <;> exact lawful_of rfl
theorem rlMemIidR (ii : Idx) (d : Byte) (r : Reg8) : Statement (.rlMemIidR ii d r) := by cases ii <;> exact lawful_of rfl
theorem rrMemIid (ii : Idx) (d : Byte) : Statement (.rrMemIid ii d) := by cases ii <;> exact lawful_of rfl
theorem rrMemIidR (ii : Idx) (d : Byte) (r : Reg8) : Statement (.rrMemIidR ii d r) := by cases ii <;> exact lawful_of rfl
theorem slaMemIid (ii : Idx) (d : Byte) : Statement (.slaMemIid ii d) := by cases ii <;> exact lawful_of rfl
theorem slaMemIidR (ii : Idx) (d : Byte) (r : Reg8) : Statement (.slaMemIidR ii d r) := by cases ii <;> exact lawful_of rfl
theorem sraMemIid (ii : Idx) (d : Byte) : Statement (.sraMemIid ii d) := by cases ii <;> exact lawful_of rfl
theorem sraMemIidR (ii : Idx) (d : Byte) (r : Reg8) : Statement (.sraMemIidR ii d r) := by cases ii <;> exact lawful_of rfl
theorem sllMemIid (ii : Idx) (d : Byte) : Statement (.sllMemIid ii d) := by cases ii <;> exact lawful_of rfl
theorem sllMemIidR (ii : Idx) (d : Byte) (r : Reg8) : Statement (.sllMemIidR ii d r) := by cases ii <;> exact lawful_of rfl
theorem srlMemIid (ii : Idx) (d : Byte) : Statement (.srlMemIid ii d) := by cases ii <;> exact lawful_of rfl
theorem srlMemIidR (ii : Idx) (d : Byte) (r : Reg8) : Statement (.srlMemIidR ii d r) := by cases ii <;> exact lawful_of rfl
theorem bitBMemIid (ii : Idx) (d : Byte) (n : BitVec 3) (z : BitVec 3) : Statement (.bitBMemIid ii d n z) := by cases ii <;> exact lawful_of rfl
theorem resBMemIid (ii : Idx) (d : Byte) (n : BitVec 3) : Statement (.resBMemIid ii d n) := by cases ii <;> exact lawful_of rfl
theorem resBMemIidR (ii : Idx) (d : Byte) (n : BitVec 3) (r : Reg8) : Statement (.resBMemIidR ii d n r) := by cases ii <;> exact lawful_of rfl
theorem setBMemIid (ii : Idx) (d : Byte) (n : BitVec 3) : Statement (.setBMemIid ii d n) := by cases ii <;> exact lawful_of rfl
theorem setBMemIidR (ii : Idx) (d : Byte) (n : BitVec 3) (r : Reg8) : Statement (.setBMemIidR ii d n r) := by cases ii <;> exact lawful_of rfl
theorem nop : Statement .nop := lawful_of rfl
theorem ldMemBcA : Statement .ldMemBcA := lawful_of rfl
theorem ldMemDeA : Statement .ldMemDeA := lawful_of rfl
theorem incMemHl : Statement .incMemHl := lawful_of rfl
theorem decMemHl : Statement .decMemHl := lawful_of rfl
theorem rlca : Statement .rlca := lawful_of rfl
theorem rrca : Statement .rrca := lawful_of rfl
theorem rla : Statement .rla := lawful_of rfl
theorem rra : Statement .rra := lawful_of rfl
theorem exAfAf : Statement .exAfAf := lawful_of rfl
theorem ldAMemBc : Statement .ldAMemBc := lawful_of rfl
theorem ldAMemDe : Statement .ldAMemDe := lawful_of rfl
theorem daa : Statement .daa := lawful_of rfl
theorem cpl : Statement .cpl := lawful_of rfl
theorem scf : Statement .scf := lawful_of rfl
theorem ccf : Statement .ccf := lawful_of rfl
theorem halt : Statement .halt := lawful_of rfl
theorem addAMemHl : Statement .addAMemHl := lawful_of rfl
theorem adcAMemHl : Statement .adcAMemHl := lawful_of rfl
theorem subMemHl : Statement .subMemHl := lawful_of rfl
theorem sbcAMemHl : Statement .sbcAMemHl := lawful_of rfl
theorem andMemHl : Statement .andMemHl := lawful_of rfl
theorem xorMemHl : Statement .xorMemHl := lawful_of rfl
theorem orMemHl : Statement .orMemHl := lawful_of rfl
theorem cpMemHl : Statement .cpMemHl := lawful_of rfl
theorem popAf : Statement .popAf := lawful_of rfl
theorem ret : Statement .ret := lawful_of rfl
theorem exx : Statement .exx := lawful_of rfl
theorem exMemSpHl : Statement .exMemSpHl := lawful_of rfl
theorem jpHl : Statement .jpHl := lawful_of rfl
theorem exDeHl : Statement .exDeHl := lawful_of rfl
theorem di : Statement .di := lawful_of rfl
theorem ldSpHl : Statement .ldSpHl := lawful_of rfl
theorem ei : Statement .ei := lawful_of rfl
theorem rlcMemHl : Statement .rlcMemHl := lawful_of rfl
theorem rrcMemHl : Statement .rrcMemHl := lawful_of rfl
theorem rlMemHl : Statement .rlMemHl := lawful_of rfl
theorem rrMemHl : Statement .rrMemHl := lawful_of rfl
theorem slaMemHl : Statement .slaMemHl := lawful_of rfl
theorem sraMemHl : Statement .sraMemHl := lawful_of rfl
theorem sllMemHl : Statement .sllMemHl := lawful_of rfl
theorem srlMemHl : Statement .srlMemHl := lawful_of rfl
theorem inMemC : Statement .inMemC := lawful_of rfl
theorem outMemC0 : Statement .outMemC0 := lawful_of rfl
theorem neg : Statement .neg := lawful_of rfl
theorem retn : Statement .retn := lawful_of rfl
theorem reti : Statement .reti := lawful_of rfl
theorem im0 : Statement .im0 := lawful_of rfl
theorem im1 : Statement .im1 := lawful_of rfl
theorem im1Dup : Statement .im1Dup := lawful_of rfl
theorem im2 : Statement .im2 := lawful_of rfl
theorem im2Dup : Statement .im2Dup := lawful_of rfl
theorem ldIA : Statement .ldIA := lawful_of rfl
theorem ldRegRA : Statement .ldRegRA := lawful_of rfl
theorem ldAI : Statement .ldAI := lawful_of rfl
theorem ldARegR : Statement .ldARegR := lawful_of rfl
theorem rrd : Statement .rrd := lawful_of rfl
theorem rld : Statement .rld := lawful_of rfl
theorem ldi : Statement .ldi := lawful_of rfl
theorem ldd : Statement .ldd := lawful_of rfl
theorem ldir : Statement .ldir := lawful_of rfl
theorem lddr : Statement .lddr := lawful_of rfl
theorem cpi : Statement .cpi := lawful_of rfl
theorem cpd : Statement .cpd := lawful_of rfl
theorem cpir : Statement .cpir := lawful_of rfl
theorem cpdr : Statement .cpdr := lawful_of rfl
theorem ini : Statement .ini := lawful_of rfl
theorem ind : Statement .ind := lawful_of rfl
theorem inir : Statement .inir := lawful_of rfl
theorem indr : Statement .indr := lawful_of rfl
theorem outi : Statement .outi := lawful_of rfl
theorem outd : Statement .outd := lawful_of rfl
theorem otir : Statement .otir := lawful_of rfl
theorem otdr : Statement .otdr := lawful_of rfl

end Sys2Proof.Laws.EncodedBytes
end

