-- ==== Sys2Proof/Safety.lean ====
section
/-! DEFINITION. The terms claims use: a legal state, a safe run, what an instruction may change, and an instruction's whole
effect. -/

namespace Sys2Proof.Machine

/-! ### Legal states -/

/-- IM holds 0, 1 or 2 (10_state.md R34). -/
def State.imLegal (s : State) : Bool := s.im != 3

/-- IFF1 = 1 implies IFF2 = 1 (60_exceptions.md R441). -/
def State.iffLegal (s : State) : Bool := !s.iff1 || s.iff2

/-- A legal state: memory in its canonical form, IM one of 0, 1, 2, and IFF1 never set without IFF2. -/
def State.legal (s : State) : Bool := s.mem.wf && s.imLegal && s.iffLegal

/-- A run of `k` steps that ends in no fault and no refusal. -/
def safeRun (k : Nat) (s : State) : Prop := ∃ t, Host.Core.run Sys2Proof.core k s = .next t

/-! ### Frames -/

/-- What an instruction may change beside `cycles` and `draws`: the registers, flags and latches named, and the bytes of memory at
the addresses listed.  By default, nothing. -/
structure Touch where
  regs : List Reg8 := []
  idx : List Idx := []
  sp : Bool := false
  pc : Bool := false
  flags : Bool := false
  shadowAf : Bool := false
  shadowBank : Bool := false
  i : Bool := false
  r : Bool := false
  iff1 : Bool := false
  iff2 : Bool := false
  im : Bool := false
  halted : Bool := false
  intBlock : Bool := false
  io : Bool := false
  diag : Bool := false
  bytes : List Word := []
deriving DecidableEq, Repr

/-- `t` differs from `s` only in what `w` names, in `cycles` and in `draws`. -/
def State.sameBut (w : Touch) (s t : State) : Prop :=
  (∀ q, q ∉ w.regs → t.get8 q = s.get8 q) ∧
  (∀ jj, jj ∉ w.idx → t.idx jj = s.idx jj) ∧
  (w.sp = false → t.sp = s.sp) ∧
  (w.pc = false → t.pc = s.pc) ∧
  (w.flags = false → t.f = s.f) ∧
  (w.shadowAf = false → t.aAlt = s.aAlt ∧ t.fAlt = s.fAlt) ∧
  (w.shadowBank = false → t.bAlt = s.bAlt ∧ t.cAlt = s.cAlt ∧ t.dAlt = s.dAlt ∧ t.eAlt = s.eAlt ∧ t.hAlt = s.hAlt ∧ t.lAlt = s.lAlt) ∧
  (w.i = false → t.i = s.i) ∧
  (w.r = false → t.r = s.r) ∧
  (w.iff1 = false → t.iff1 = s.iff1) ∧
  (w.iff2 = false → t.iff2 = s.iff2) ∧
  (w.im = false → t.im = s.im) ∧
  (w.halted = false → t.halted = s.halted) ∧
  (w.intBlock = false → t.intBlock = s.intBlock) ∧
  (w.io = false → t.io = s.io) ∧
  (w.diag = false → t.diag = s.diag) ∧
  t.intPending = s.intPending ∧ t.nmiPending = s.nmiPending ∧ t.params = s.params ∧
  (∀ a, a ∉ w.bytes → t.peek a = s.peek a)

/-- The registers of a pair, as a frame names them. -/
def pairTouch : Pair → Touch
  | .bc => { regs := [.b, .c] }
  | .de => { regs := [.d, .e] }
  | .hl => { regs := [.h, .l] }
  | .sp => { sp := true }

/-! ### Effects -/

/-- The word memory holds at an address, low byte first (20_memory.md R64). -/
def State.peekWord (s : State) (a : Word) : Word := joinBytes (s.peek (a + 1)) (s.peek a)

/-- The whole effect of an instruction in a state: its bytes are `bs`; `exec` answers a next state; that state is as `post` says, it
differs from the old one only in what `w` names, and exactly `n` T-states are added under the default `CYCLE_TABLE`. -/
def Completes (i : Instr) (bs : List Byte) (s : State) (n : Nat) (w : Touch) (post : State → Prop) : Prop :=
  encode i = bs ∧
  ∃ t, exec i s = .next t ∧ post t ∧ s.sameBut w t ∧ (s.params.costs = [] → t.cycles = s.cycles + BitVec.ofNat 64 n)

/-- The rule of bits Y and X of F (00_scope.md R15) where the rule's silicon source gives `y` and `x`: kept under preserve, these
under silicon, and any value under draw. -/
def xyRule (s t : State) (y x : Bool) : Prop :=
  (s.params.xyMode = .preserve → t.f.y = s.f.y ∧ t.f.x = s.f.x) ∧ (s.params.xyMode = .silicon → t.f.y = y ∧ t.f.x = x)

end Sys2Proof.Machine
end

