-- ==== Sys2Proof/Certificates/Slice0/Obligations.lean ====
section
/-! DEFINITION. The statements about the model.  An instruction's statement gives, through `Completes`, its bytes, its next state, the
cost and the frame.  A statement whose instruction touches memory assumes `MEM_FAULT = false`, the default (20_memory.md R68); what
happens otherwise is `StepStopsOnlyByMemFault`. -/

namespace Sys2Proof.Claims

open Sys2Proof Sys2Proof.Machine

/-! ### The words of the statements -/

/-- Whether a byte has an even number of set bits (00_scope.md R11). -/
def evenOnes (v : Byte) : Bool :=
  !(v.getLsbD 0 ^^ v.getLsbD 1 ^^ v.getLsbD 2 ^^ v.getLsbD 3 ^^ v.getLsbD 4 ^^ v.getLsbD 5 ^^ v.getLsbD 6 ^^ v.getLsbD 7)

/-- The six documented flags after an instruction. -/
def flagsAre (t : State) (sf zf hf pv nf cf : Bool) : Prop :=
  t.f.s = sf ∧ t.f.z = zf ∧ t.f.h = hf ∧ t.f.pv = pv ∧ t.f.n = nf ∧ t.f.c = cf

/-- Bits Y and X follow bits 5 and 3 of `v` under silicon. -/
def xyOf (s t : State) (v : Byte) : Prop := xyRule s t (v.getLsbD 5) (v.getLsbD 3)

/-- Memory holds a word at an address, low byte first. -/
def holdsWord (t : State) (a v : Word) : Prop := t.peek a = loByte v ∧ t.peek (a + 1) = hiByte v

/-- The two addresses of a word. -/
def wordBytes (a : Word) : List Word := [a, a + 1]

/-- An effect on the byte of an index half: the named half is `v`, the other is kept (10_state.md R27). -/
def hiBecomes (ii : Idx) (v : Byte) (s t : State) : Prop := t.idxHi ii = v ∧ t.idxLo ii = s.idxLo ii
/-- The same for the low half. -/
def loBecomes (ii : Idx) (v : Byte) (s t : State) : Prop := t.idxLo ii = v ∧ t.idxHi ii = s.idxHi ii

/-- The six forms of an accumulator operation, with their bytes and costs (43_arith8.md R261): `y` is the operation's code, `w` what
it may change, `post s v t` its effect on the source value `v`. -/
def sixForms (y : BitVec 3) (byReg : Reg8 → Instr) (byImm : Byte → Instr) (byHi byLo : Idx → Instr) (byHl : Instr)
    (byIid : Idx → Byte → Instr) (w : Touch) (post : State → Byte → State → Prop) : Prop :=
  ∀ s : State,
    (∀ r, Completes (byReg r) [opByte 2 y r.code] s 4 w (post s (s.get8 r))) ∧
    (∀ n, Completes (byImm n) [opByte 3 y 6, n] s 7 w (post s n)) ∧
    (∀ ii, Completes (byHi ii) [ii.byte, opByte 2 y 4] s 8 w (post s (s.idxHi ii))) ∧
    (∀ ii, Completes (byLo ii) [ii.byte, opByte 2 y 5] s 8 w (post s (s.idxLo ii))) ∧
    (s.params.memFault = false →
      Completes byHl [opByte 2 y 6] s 7 w (post s (s.peek s.hl)) ∧
      ∀ ii d, Completes (byIid ii d) [ii.byte, opByte 2 y 6, d] s 19 w (post s (s.peek (s.ea ii d))))

/-- The four forms of a rotate or shift, with their bytes and costs (45_rotate_bit.md R325): `y` is the operation's code, `res` its
result and `lost` its new carry, on the operand and the old carry. -/
def fourForms (y : BitVec 3) (byReg : Reg8 → Instr) (byHl : Instr) (byIid : Idx → Byte → Instr)
    (byIidReg : Idx → Byte → Reg8 → Instr) (res : Byte → Bool → Byte) (lost : Byte → Bool) : Prop :=
  ∀ s : State,
    let flags := fun (v : Byte) (t : State) =>
      flagsAre t (res v s.f.c).msb (res v s.f.c == 0) false (evenOnes (res v s.f.c)) false (lost v) ∧ xyOf s t (res v s.f.c)
    (∀ r, Completes (byReg r) [0xCB, opByte 0 y r.code] s 8 { regs := [r], flags := true } fun t =>
      t.get8 r = res (s.get8 r) s.f.c ∧ flags (s.get8 r) t) ∧
    (s.params.memFault = false →
      (Completes byHl [0xCB, opByte 0 y 6] s 15 { flags := true, bytes := [s.hl] } fun t =>
        t.peek s.hl = res (s.peek s.hl) s.f.c ∧ flags (s.peek s.hl) t) ∧
      ∀ ii d,
        (Completes (byIid ii d) [ii.byte, 0xCB, d, opByte 0 y 6] s 23 { flags := true, bytes := [s.ea ii d] } fun t =>
          t.peek (s.ea ii d) = res (s.peek (s.ea ii d)) s.f.c ∧ flags (s.peek (s.ea ii d)) t) ∧
        ∀ r, Completes (byIidReg ii d r) [ii.byte, 0xCB, d, opByte 0 y r.code] s 23
            { regs := [r], flags := true, bytes := [s.ea ii d] } fun t =>
          t.peek (s.ea ii d) = res (s.peek (s.ea ii d)) s.f.c ∧ t.get8 r = res (s.peek (s.ea ii d)) s.f.c ∧
            flags (s.peek (s.ea ii d)) t)

/-- `A <- Add8(A, v, cin)` with its flags (40_step_and_microops.md R141). -/
def addEffect (s : State) (cin : Bool) (v : Byte) (t : State) : Prop :=
  t.a = BitVec.ofNat 8 (s.a.toNat + v.toNat + cin.toNat) ∧
  flagsAre t t.a.msb (t.a == 0) (decide (s.a.toNat % 16 + v.toNat % 16 + cin.toNat > 15)) ((s.a ^^^ t.a) &&& (v ^^^ t.a)).msb false
    (decide (s.a.toNat + v.toNat + cin.toNat > 255)) ∧
  xyOf s t t.a

/-- The flags of `Sub8(a, v, cin)` with the result `r` (R142). -/
def subFlags (a v : Byte) (cin : Bool) (r : Byte) (t : State) : Prop :=
  flagsAre t r.msb (r == 0) (decide (a.toNat % 16 < v.toNat % 16 + cin.toNat)) ((a ^^^ v) &&& (a ^^^ r)).msb true
    (decide (a.toNat < v.toNat + cin.toNat))

/-- `A <- Sub8(a, v, cin)` with its flags (R142). -/
def subEffect (s : State) (a : Byte) (cin : Bool) (v : Byte) (t : State) : Prop :=
  t.a = BitVec.ofInt 8 ((a.toNat : Int) - v.toNat - cin.toNat) ∧ subFlags a v cin t.a t ∧ xyOf s t t.a

/-- `A <- Logic(op, A, v)` with its flags (R143); `g` is the operation, `half` is 1 for AND. -/
def logicEffect (g : Byte → Byte → Byte) (half : Bool) (s : State) (v : Byte) (t : State) : Prop :=
  t.a = g s.a v ∧ flagsAre t t.a.msb (t.a == 0) half (evenOnes t.a) false false ∧ xyOf s t t.a

/-- The flags of `Inc8(v)` (R144). -/
def incEffect (s : State) (v : Byte) (t : State) : Prop :=
  flagsAre t (v + 1).msb (v + 1 == 0) (v.toNat % 16 == 15) (v == 0x7F) false s.f.c ∧ xyOf s t (v + 1)

/-- The flags of `Dec8(v)` (R144). -/
def decEffect (s : State) (v : Byte) (t : State) : Prop :=
  flagsAre t (v - 1).msb (v - 1 == 0) (v.toNat % 16 == 0) (v == 0x80) true s.f.c ∧ xyOf s t (v - 1)

/-- The flags of `Add16(a, b)` (R149). -/
def add16Effect (s : State) (a b r : Word) (t : State) : Prop :=
  r = BitVec.ofNat 16 (a.toNat + b.toNat) ∧
  flagsAre t s.f.s s.f.z (decide (a.toNat % 4096 + b.toNat % 4096 > 4095)) s.f.pv false (decide (a.toNat + b.toNat > 65535)) ∧
  xyOf s t (hiByte r)

/-- The registers after one iteration of a block move or compare of direction `step` (42_exchange_block.md R236 to R242). -/
def pointers (s t : State) (step : Word) : Prop := t.hl = s.hl + step ∧ t.bc = s.bc - 1

/-- One block move iteration with its flags (R236, R237). -/
def moveEffect (s : State) (step : Word) (t : State) : Prop :=
  pointers s t step ∧ t.de = s.de + step ∧ t.peek s.de = s.peek s.hl ∧
  flagsAre t s.f.s s.f.z false (s.bc - 1 != 0) false s.f.c ∧
  xyRule s t ((s.a + s.peek s.hl).getLsbD 1) ((s.a + s.peek s.hl).getLsbD 3)

/-- The new half-carry of a block compare (R241). -/
def compareHalf (s : State) : Bool := decide (s.a.toNat % 16 < (s.peek s.hl).toNat % 16)

/-- The byte whose bits 1 and 3 a block compare shows in Y and X under silicon (R241). -/
def compareShown (s : State) : Byte := s.a - s.peek s.hl - (if compareHalf s then 1 else 0)

/-- One block compare iteration with its flags (R241, R242). -/
def compareEffect (s : State) (step : Word) (t : State) : Prop :=
  pointers s t step ∧
  flagsAre t (s.a - s.peek s.hl).msb (s.a == s.peek s.hl) (compareHalf s) (s.bc - 1 != 0) true s.f.c ∧
  xyRule s t ((compareShown s).getLsbD 1) ((compareShown s).getLsbD 3)

/-- Where a repeating block instruction leaves PC (R240). -/
def repeats (s : State) (again : Bool) (t : State) : Prop := t.pc = if again then s.pc - 2 else s.pc

/-- The frame of a block move. -/
def moveTouch (s : State) : Touch := { regs := [.b, .c, .d, .e, .h, .l], flags := true, bytes := [s.de] }

/-- The frame of a block compare. -/
def compareTouch : Touch := { regs := [.b, .c, .h, .l], flags := true }

/-- The flags of a block I/O iteration that the spec fixes; S, H and PV, Y and X are drawn (47_cpu_control_io.md R417). -/
def blockIoFlags (s t : State) : Prop := t.f.z = (s.b - 1 == 0) ∧ t.f.n = true ∧ t.f.c = s.f.c

/-- One input iteration (R417, R418). -/
def inputEffect (s : State) (step : Word) (t : State) : Prop :=
  t.b = s.b - 1 ∧ t.hl = s.hl + step ∧ t.peek s.hl = s.portValue s.bc ∧ t.io = s.io ++ [.input s.bc (s.portValue s.bc)] ∧
  blockIoFlags s t

/-- One output iteration (R421, R422). -/
def outputEffect (s : State) (step : Word) (t : State) : Prop :=
  t.b = s.b - 1 ∧ t.hl = s.hl + step ∧ t.io = s.io ++ [.output (joinBytes (s.b - 1) s.c) (s.peek s.hl)] ∧ blockIoFlags s t

/-- The frame of a block input. -/
def inputTouch (s : State) : Touch := { regs := [.b, .h, .l], flags := true, io := true, bytes := [s.hl] }

/-- The frame of a block output. -/
def outputTouch : Touch := { regs := [.b, .h, .l], flags := true, io := true }

/-- The flags of a byte read by IN r,(C), RLD and RRD. -/
def byteEffect (s : State) (v : Byte) (t : State) : Prop :=
  flagsAre t v.msb (v == 0) false (evenOnes v) false s.f.c ∧ xyOf s t v

/-- The flags of BIT on the byte `v` (40_step_and_microops.md R148). -/
def bitEffect (s : State) (n : BitVec 3) (v : Byte) (t : State) : Prop :=
  flagsAre t (n == 7 && v.getLsbD 7) (!v.getLsbD n.toNat) true (!v.getLsbD n.toNat) false s.f.c

/-- `u` is `v` with bit `n` given, the others kept. -/
def bitGiven (n : BitVec 3) (b : Bool) (v u : Byte) : Prop :=
  u.getLsbD n.toNat = b ∧ ∀ k < 8, k ≠ n.toNat → u.getLsbD k = v.getLsbD k

/-- `t` has the cost `c` more T-states than `s`, which is `n` under the default `CYCLE_TABLE`. -/
def addsCost (s t : State) (c n : Nat) : Prop :=
  t.cycles = s.cycles + BitVec.ofNat 64 c ∧ (s.params.costs = [] → c = n)

/-- The answer with `c` more T-states in every state it holds. -/
def delayed (c : BitVec 64) : Result → Result
  | .next t => .next { t with cycles := t.cycles + c }
  | .fault (.memFault a u) => .fault (.memFault a { u with cycles := u.cycles + c })
  | .refused r => .refused r

/-- The answer with another `CYCLE_TABLE` in the parameters of every state it holds. -/
def retabled (table : CycleTable) : Result → Result
  | .next t => .next { t with params := { t.params with costs := table } }
  | .fault (.memFault a u) => .fault (.memFault a { u with params := { u.params with costs := table } })
  | .refused r => .refused r

/-- The instructions that write IM (10_state.md R34). -/
def writesIm : Instr → Bool
  | .im0 | .im0Dup _ | .im1 | .im1Dup | .im2 | .im2Dup => true
  | _ => false

/-- The instructions that write IFF1 (R33). -/
def writesIff1 : Instr → Bool
  | .di | .ei | .retn | .retnDup _ | .reti => true
  | _ => false

/-- The instructions that do I/O (20_memory.md R70). -/
def doesIo : Instr → Bool
  | .inAMemN _ | .outMemNA _ | .inRMemC _ | .inMemC | .outMemCR _ | .outMemC0 | .ini | .ind | .inir | .indr | .outi | .outd | .otir
  | .otdr => true
  | _ => false

/-- `t` is `s` with the bytes `vs` in memory upward from `a`, wrapping, and nothing else changed (20_memory.md R69). -/
def isLoaded (s t : State) (vs : List Byte) (a : Word) : Prop :=
  (∀ k (h : k < vs.length), t.peek (a + BitVec.ofNat 16 k) = vs[k]) ∧
  (∀ b : Word, (∀ k < vs.length, b ≠ a + BitVec.ofNat 16 k) → t.peek b = s.peek b) ∧
  { t with mem := s.mem } = s

/-- Every element of the state record at its reset value (10_state.md R44). -/
def hasResetValues (s : State) : Prop :=
  (∀ r, s.get8 r = 0) ∧ s.f.toByte = 0 ∧
  s.aAlt = 0 ∧ s.fAlt.toByte = 0 ∧ s.bAlt = 0 ∧ s.cAlt = 0 ∧ s.dAlt = 0 ∧ s.eAlt = 0 ∧ s.hAlt = 0 ∧ s.lAlt = 0 ∧
  s.ix = 0 ∧ s.iy = 0 ∧ s.sp = 0 ∧ s.pc = 0 ∧ s.i = 0 ∧ s.r = 0 ∧ s.iff1 = false ∧ s.iff2 = false ∧ s.im = 0 ∧
  s.halted = false ∧ s.cycles = 0 ∧ s.intPending = false ∧ s.nmiPending = false ∧ s.intBlock = .none

/-- A packed decimal byte as a number; `none` when a digit is above 9. -/
def bcd (v : Byte) : Option Nat :=
  if v.toNat / 16 ≤ 9 ∧ v.toNat % 16 ≤ 9 then some (v.toNat / 16 * 10 + v.toNat % 16) else none

end Sys2Proof.Claims

open Sys2Proof Sys2Proof.Machine Sys2Proof.Claims

/-! ### Encoding and decoding -/

/-- Words written out from the spec's encodings decode to the instruction they stand for, one or more per family. -/
def Obligations.SpecWordsDecode : Prop :=
  decode [0x3E, 0x0A] = .ok (.ldRN .a 0x0A, []) ∧ decode [0x06, 0x05] = .ok (.ldRN .b 0x05, []) ∧
  decode [0x80] = .ok (.addAR .b, []) ∧ decode [0x04] = .ok (.incR .b, []) ∧ decode [0x78] = .ok (.ldRR .a .b, []) ∧
  decode [0x3D] = .ok (.decR .a, []) ∧ decode [0x18, 0xF5] = .ok (.jrE 0xF5, []) ∧
  decode [0xED, 0xB0] = .ok (.ldir, []) ∧ decode [0xDD, 0x66, 0x05] = .ok (.ldHMemIid .ix 0x05, []) ∧
  decode [0xFD, 0x65] = .ok (.ldIihIil .iy, []) ∧ decode [0xCB, 0x27] = .ok (.slaR .a, []) ∧
  decode [0xDD, 0xCB, 0x01, 0x80] = .ok (.resBMemIidR .ix 0x01 0 .b, []) ∧ decode [0xDD, 0x29] = .ok (.addIiIi .ix, []) ∧
  decode [0xED, 0x6B, 0x34, 0x12] = .ok (.ldRrMemNn .hl 0x1234, []) ∧ decode [0xFF] = .ok (.rstP 7, []) ∧
  decode [0xED, 0x71] = .ok (.outMemC0, []) ∧ decode [0xDD, 0x00] = .ok (.lonePrefix .ix, [0x00]) ∧
  decode [0xED, 0x00] = .ok (.unmappedEd 0x00, [])

/-- Every well-formed instruction's bytes, whatever follows them, decode to that instruction, all its operands included.  A lone DD
or FD is one only before a byte that selects no row (30_encoding.md R112). -/
def Obligations.DecodeOfEncode : Prop :=
  ∀ (i : Instr) (rest : List Byte), i.wf = true →
    (∀ ii, i = .lonePrefix ii → ∃ b tl, rest = b :: tl ∧ isIndexed b = false) →
    decode (encode i ++ rest) = .ok (i, rest)

/-- Any four bytes decode to a well-formed instruction whose encoding is the bytes it was read from: no bit is dropped, and each byte
sequence has one reading. -/
def Obligations.EncodeOfDecode : Prop :=
  ∀ b0 b1 b2 b3 : Byte,
    (decodeBytes b0 b1 b2 b3).wf = true ∧
    encode (decodeBytes b0 b1 b2 b3) = [b0, b1, b2, b3].take (decodeBytes b0 b1 b2 b3).length

/-- The no-op encodings: the unmapped ED second bytes are those R117 lists, 178 of them; DD or FD is a lone prefix exactly before the
bytes that R111 does not list, and R111 lists 86. -/
def Obligations.NoOpEncodings : Prop :=
  ((∀ op b2 b3 : Byte, decodeBytes 0xED op b2 b3 = .unmappedEd op ↔
     op ≤ 0x3F ∨ op = 0x77 ∨ op = 0x7F ∨ (0x80 ≤ op ∧ op ≤ 0x9F) ∨ (0xA4 ≤ op ∧ op ≤ 0xA7) ∨ (0xAC ≤ op ∧ op ≤ 0xAF) ∨
       (0xB4 ≤ op ∧ op ≤ 0xB7) ∨ 0xBC ≤ op) ∧
   ((List.range 256).filter fun k => decodeBytes 0xED (BitVec.ofNat 8 k) 0 0 == .unmappedEd (BitVec.ofNat 8 k)).length = 178) ∧
  (∀ (ii : Idx) (b1 b2 b3 : Byte), decodeBytes ii.byte b1 b2 b3 = .lonePrefix ii ↔ isIndexed b1 = false) ∧
  ((List.range 256).filter fun k => isIndexed (BitVec.ofNat 8 k)).length = 86

/-- Every instruction has one to four bytes and as many opcode fetches as they need. -/
def Obligations.BytesAndFetches : Prop := ∀ i : Instr, Laws.EncodedBytes.Statement i

/-! ### Reset, the step, and the whole machine -/

/-- The reset value of every element of the state record, in the initial state and after the host's reset, which keeps memory and the
traces. -/
def Obligations.ResetValues : Prop :=
  hasResetValues State.reset ∧
  ∀ s : State, hasResetValues s.hostReset ∧ s.hostReset.mem = s.mem ∧ s.hostReset.io = s.io ∧ s.hostReset.diag = s.diag

/-- The state after reset is legal. -/
def Obligations.ResetLegal : Prop := State.reset.legal = true

/-- Every step from a legal state leaves a legal state: memory canonical, IM 0, 1 or 2, IFF1 never set without IFF2. -/
def Obligations.StepKeepsLegal : Prop := ∀ s t : State, s.legal = true → step s = .next t → t.legal = true

/-- When the bytes at PC decode to an instruction, a running core's step is that instruction executed with PC past its bytes, R past
its opcode fetches and the boundary latch clear, then the interrupt check. -/
def Obligations.StepRunsDecoded : Prop :=
  ∀ (s : State) (i : Instr) (rest : List Byte), s.halted = false → s.params.memFault = false →
    decode [s.peek s.pc, s.peek (s.pc + 1), s.peek (s.pc + 2), s.peek (s.pc + 3)] = .ok (i, rest) →
    step s = andThen
      (exec i { s with intBlock := .none, pc := s.pc + BitVec.ofNat 16 i.length, r := rInc s.r (opcodeFetches i) })
      (interruptCheck false)

/-- A halted core does not fetch: without an interrupt the step adds the halted step's cost (4 by default) and changes nothing else; with
one it is that acceptance alone. -/
def Obligations.HaltedStep : Prop :=
  ∀ s : State, s.halted = true →
    (s.nmiPending = false → (s.iff1 && s.intPending) = false →
      step s = .next { s with intBlock := .none, cycles := s.cycles + BitVec.ofNat 64 (haltCost s.params.costs) } ∧
        (s.params.costs = [] → haltCost s.params.costs = 4)) ∧
    (s.params.memFault = false → s.nmiPending = true →
      ∃ t, step s = .next t ∧ t.halted = false ∧ t.pc = 0x0066 ∧ holdsWord t t.sp s.pc ∧ t.sp = s.sp - 2 ∧ t.r = s.r ∧
        addsCost s t (nmiCost s.params.costs) 11) ∧
    (s.params.memFault = false → s.nmiPending = false → s.iff1 = true → s.intPending = true → (s.im = 0 ∨ s.im = 1) →
      ∃ t, step s = .next t ∧ t.halted = false ∧ t.pc = 0x0038 ∧ holdsWord t t.sp s.pc ∧ t.sp = s.sp - 2 ∧ t.r = s.r ∧
        addsCost s t (mode1Cost s.params.costs) 13)

/-- The refresh counter counts in its low seven bits and keeps bit 7. -/
def Obligations.RefreshCounter : Prop :=
  ∀ (r : Byte) (k : Nat), (rInc r k).toNat = r.toNat / 128 * 128 + (r.toNat % 128 + k) % 128

/-- With `MEM_FAULT = false` every step from every state ends in a next state, where `MEM_FAULT` is false again: no instruction traps,
none is refused, and no run ever stops. -/
def Obligations.StepNeverStops : Prop :=
  ∀ s : State, s.params.memFault = false → ∃ t, step s = .next t ∧ t.params.memFault = false

/-- A step ends in a next state or, under `MEM_FAULT = true` only, in a memory fault that carries the address and whose event is the last
of the diagnostic output it leaves; it is never refused.  An access under `MEM_FAULT = true` faults exactly when the free input says so,
before it reads or writes anything. -/
def Obligations.StepStopsOnlyByMemFault : Prop :=
  (∀ s : State, (∃ t, step s = .next t) ∨
    (s.params.memFault = true ∧ ∃ (a : Word) (u : State), step s = .fault (.memFault a (u.report (.memFault a))))) ∧
  ∀ (s : State) (a : Word) (v : Byte) (read : Byte → State → Result) (wrote : State → Result),
    let failed : Result := .fault (.memFault a { s with diag := s.diag ++ [.memFault a] })
    let fails := s.params.memFault && Config.accessFails s.draws a
    let drawn : State := { s with draws := if s.params.memFault then s.draws + 1 else s.draws }
    readByte a s read = (if fails then failed else read (s.peek a) drawn) ∧
    writeByte a v s wrote = (if fails then failed else wrote (drawn.poke a v))

/-- Under the default `CYCLE_TABLE` every instruction costs 4 to 23 T-states, an acceptance 11, 13 or 19, a halted step 4.  Under any
table a running step adds the cost of its instruction plus that of an acceptance, if any; a halted one its own cost or the acceptance's
cost alone.  IM must be legal, since an acceptance with another IM costs nothing (R446). -/
def Obligations.StepCost : Prop :=
  (∀ (i : Instr) (taken : Bool), 4 ≤ cost [] i taken ∧ cost [] i taken ≤ 23) ∧
  nmiCost [] = 11 ∧ mode1Cost [] = 13 ∧ mode2Cost [] = 19 ∧ haltCost [] = 4 ∧
  ∀ s t : State, s.imLegal = true → step s = .next t →
    let costs := s.params.costs
    let accepted := [nmiCost costs, mode1Cost costs, mode2Cost costs]
    (s.halted = false →
      ∃ taken, ∃ c ∈ 0 :: accepted, t.cycles = s.cycles + BitVec.ofNat 64 (cost costs s.fetched taken + c)) ∧
    (s.halted = true → ∃ c ∈ haltCost costs :: accepted, t.cycles = s.cycles + BitVec.ofNat 64 c)

/-- No instruction and no acceptance reads `cycles`: a step from a state with `c` more T-states gives the same answer with `c` more; and
a step under another `CYCLE_TABLE` gives the same answer but for the table and `cycles`. -/
def Obligations.CyclesNeverRead : Prop :=
  (∀ (s : State) (c : BitVec 64), step { s with cycles := s.cycles + c } = delayed c (step s)) ∧
  ∀ (s : State) (table : CycleTable),
    ∃ c, step { s with params := { s.params with costs := table } } = delayed c (retabled table (step s))

/-- A step changes no parameter and only appends to the I/O history and the diagnostic output.  The parameters and the traces as
fields of State are the model's choice (log entries 2 and 12). -/
def Obligations.TracesOnlyGrow : Prop :=
  ∀ s t : State, step s = .next t →
    t.params = s.params ∧ (∃ l, t.io = s.io ++ l) ∧ (∃ l, t.diag = s.diag ++ l)

/-- A step raises no pending bit, and clears `int_pending` only with an acceptance, which leaves IFF1 = 0 and the core running. -/
def Obligations.PendingBitLifetime : Prop :=
  ∀ s t : State, step s = .next t →
    (t.intPending = true → s.intPending = true) ∧ (t.nmiPending = true → s.nmiPending = true) ∧
    (s.intPending = true → t.intPending = false → t.iff1 = false ∧ t.halted = false) ∧
    (s.nmiPending = true → t.nmiPending = false → t.iff1 = false ∧ t.halted = false ∧ t.pc = 0x0066)

/-- Who writes the control state: IM only by IM 0, 1, 2; IFF1 only by DI, EI, RETN, RETI; IFF2 only by DI and EI; I only by LD I,A; R,
beyond the fetch, only by LD R,A; halted only by HALT; the pending bits by no instruction. -/
def Obligations.ControlStateWriters : Prop :=
  ∀ (i : Instr) (s t : State), exec i s = .next t →
    (writesIm i = false → t.im = s.im) ∧ (writesIff1 i = false → t.iff1 = s.iff1) ∧
    (i ≠ .di → i ≠ .ei → t.iff2 = s.iff2) ∧ (i ≠ .ldIA → t.i = s.i) ∧ (i ≠ .ldRegRA → t.r = s.r) ∧
    (i ≠ .halt → t.halted = s.halted) ∧ t.intPending = s.intPending ∧ t.nmiPending = s.nmiPending

/-- No instruction but EX AF,AF' and EXX reads or writes the shadow set; no unprefixed instruction writes IX or IY; only the I/O
instructions do I/O. -/
def Obligations.ShadowIndexAndIoWriters : Prop :=
  ∀ (i : Instr) (s t : State), exec i s = .next t →
    (i ≠ .exAfAf → t.aAlt = s.aAlt ∧ t.fAlt = s.fAlt) ∧
    (i ≠ .exx → t.bAlt = s.bAlt ∧ t.cAlt = s.cAlt ∧ t.dAlt = s.dAlt ∧ t.eAlt = s.eAlt ∧ t.hAlt = s.hAlt ∧ t.lAlt = s.lAlt) ∧
    (∀ ii, (encode i).head? ≠ some ii.byte → t.idx ii = s.idx ii) ∧
    (doesIo i = false → t.io = s.io)

/-! ### Registers and memory -/

/-- A pair is its two registers, high byte first; an index register is its two halves; EA is the index plus the signed displacement,
modulo 2^16. -/
def Obligations.PairsHalvesAndAddresses : Prop :=
  ∀ s : State,
    s.bc.toNat = s.b.toNat * 256 + s.c.toNat ∧ s.de.toNat = s.d.toNat * 256 + s.e.toNat ∧
    s.hl.toNat = s.h.toNat * 256 + s.l.toNat ∧ (s.getQQ .af).toNat = s.a.toNat * 256 + s.f.toByte.toNat ∧
    (∀ p v, (s.set16 p v).get16 p = v ∧ ∀ q, q ≠ p → (s.set16 p v).get16 q = s.get16 q) ∧
    (∀ ii v, (s.setIdxHi ii v).idxHi ii = v ∧ (s.setIdxHi ii v).idxLo ii = s.idxLo ii ∧
      (s.setIdxLo ii v).idxLo ii = v ∧ (s.setIdxLo ii v).idxHi ii = s.idxHi ii) ∧
    (∀ ii, (s.idx ii).toNat = (s.idxHi ii).toNat * 256 + (s.idxLo ii).toNat) ∧
    (∀ ii d, ((s.ea ii d).toNat : Int) = ((s.idx ii).toNat + d.toInt) % 65536)

/-- A byte written is read back and no other byte changes; a word written is read back, its low byte at the address and its high byte
at the next one, modulo 2^16. -/
def Obligations.ReadAfterWrite : Prop :=
  (∀ (s : State) (a b : Word) (v : Byte), (s.poke a v).peek b = if b = a then v else s.peek b) ∧
  ∀ (s : State) (a v : Word), s.params.memFault = false →
    (∀ k, readByte a s k = k (s.peek a) s) ∧ (∀ k, readWord a s k = k (s.peekWord a) s) ∧
    (∀ (b : Byte) (k : State → Result), writeByte a b s k = k (s.poke a b)) ∧
    (∀ k : Word → State → Result, writeWord a v s (fun t => readWord a t k) = writeWord a v s fun t => k v t) ∧
    ∃ t, writeWord a v s .next = .next t ∧ holdsWord t a v ∧ ∀ b, b ∉ wordBytes a → t.peek b = s.peek b

/-! ### Loads and the stack (41_load.md) -/

/-- LD r,r' and LD r,n. -/
def Obligations.RegisterLoads : Prop :=
  ∀ s : State,
    (∀ r r', Completes (.ldRR r r') [opByte 1 r.code r'.code] s 4 { regs := [r] } fun t => t.get8 r = s.get8 r') ∧
    (∀ r n, Completes (.ldRN r n) [opByte 0 r.code 6, n] s 7 { regs := [r] } fun t => t.get8 r = n)

/-- Loads of a register from memory: (HL), (BC), (DE), (nn), (ii+d). -/
def Obligations.LoadsFromMemory : Prop :=
  ∀ s : State, s.params.memFault = false →
    (∀ r, Completes (.ldRMemHl r) [opByte 1 r.code 6] s 7 { regs := [r] } fun t => t.get8 r = s.peek s.hl) ∧
    (Completes .ldAMemBc [0x0A] s 7 { regs := [.a] } fun t => t.a = s.peek s.bc) ∧
    (Completes .ldAMemDe [0x1A] s 7 { regs := [.a] } fun t => t.a = s.peek s.de) ∧
    (∀ nn, Completes (.ldAMemNn nn) [0x3A, loByte nn, hiByte nn] s 13 { regs := [.a] } fun t => t.a = s.peek nn) ∧
    ∀ ii d,
      (Completes (.ldBMemIid ii d) [ii.byte, 0x46, d] s 19 { regs := [.b] } fun t => t.b = s.peek (s.ea ii d)) ∧
      (Completes (.ldCMemIid ii d) [ii.byte, 0x4E, d] s 19 { regs := [.c] } fun t => t.c = s.peek (s.ea ii d)) ∧
      (Completes (.ldDMemIid ii d) [ii.byte, 0x56, d] s 19 { regs := [.d] } fun t => t.d = s.peek (s.ea ii d)) ∧
      (Completes (.ldEMemIid ii d) [ii.byte, 0x5E, d] s 19 { regs := [.e] } fun t => t.e = s.peek (s.ea ii d)) ∧
      (Completes (.ldHMemIid ii d) [ii.byte, 0x66, d] s 19 { regs := [.h] } fun t => t.h = s.peek (s.ea ii d)) ∧
      (Completes (.ldLMemIid ii d) [ii.byte, 0x6E, d] s 19 { regs := [.l] } fun t => t.l = s.peek (s.ea ii d)) ∧
      (Completes (.ldAMemIid ii d) [ii.byte, 0x7E, d] s 19 { regs := [.a] } fun t => t.a = s.peek (s.ea ii d))

/-- Stores of a byte: (HL), (BC), (DE), (nn), (ii+d). -/
def Obligations.ByteStores : Prop :=
  ∀ s : State, s.params.memFault = false →
    (∀ r, Completes (.ldMemHlR r) [opByte 1 6 r.code] s 7 { bytes := [s.hl] } fun t => t.peek s.hl = s.get8 r) ∧
    (∀ n, Completes (.ldMemHlN n) [0x36, n] s 10 { bytes := [s.hl] } fun t => t.peek s.hl = n) ∧
    (Completes .ldMemBcA [0x02] s 7 { bytes := [s.bc] } fun t => t.peek s.bc = s.a) ∧
    (Completes .ldMemDeA [0x12] s 7 { bytes := [s.de] } fun t => t.peek s.de = s.a) ∧
    (∀ nn, Completes (.ldMemNnA nn) [0x32, loByte nn, hiByte nn] s 13 { bytes := [nn] } fun t => t.peek nn = s.a) ∧
    ∀ ii d,
      (Completes (.ldMemIidB ii d) [ii.byte, 0x70, d] s 19 { bytes := [s.ea ii d] } fun t => t.peek (s.ea ii d) = s.b) ∧
      (Completes (.ldMemIidC ii d) [ii.byte, 0x71, d] s 19 { bytes := [s.ea ii d] } fun t => t.peek (s.ea ii d) = s.c) ∧
      (Completes (.ldMemIidD ii d) [ii.byte, 0x72, d] s 19 { bytes := [s.ea ii d] } fun t => t.peek (s.ea ii d) = s.d) ∧
      (Completes (.ldMemIidE ii d) [ii.byte, 0x73, d] s 19 { bytes := [s.ea ii d] } fun t => t.peek (s.ea ii d) = s.e) ∧
      (Completes (.ldMemIidH ii d) [ii.byte, 0x74, d] s 19 { bytes := [s.ea ii d] } fun t => t.peek (s.ea ii d) = s.h) ∧
      (Completes (.ldMemIidL ii d) [ii.byte, 0x75, d] s 19 { bytes := [s.ea ii d] } fun t => t.peek (s.ea ii d) = s.l) ∧
      (Completes (.ldMemIidA ii d) [ii.byte, 0x77, d] s 19 { bytes := [s.ea ii d] } fun t => t.peek (s.ea ii d) = s.a) ∧
      ∀ n, Completes (.ldMemIidN ii d n) [ii.byte, 0x36, d, n] s 19 { bytes := [s.ea ii d] } fun t => t.peek (s.ea ii d) = n

/-- Loads to and from the halves of an index register; the other half is kept. -/
def Obligations.IndexHalfLoads : Prop :=
  ∀ (s : State) (ii : Idx),
    (Completes (.ldBIih ii) [ii.byte, 0x44] s 8 { regs := [.b] } fun t => t.b = s.idxHi ii) ∧
    (Completes (.ldBIil ii) [ii.byte, 0x45] s 8 { regs := [.b] } fun t => t.b = s.idxLo ii) ∧
    (Completes (.ldCIih ii) [ii.byte, 0x4C] s 8 { regs := [.c] } fun t => t.c = s.idxHi ii) ∧
    (Completes (.ldCIil ii) [ii.byte, 0x4D] s 8 { regs := [.c] } fun t => t.c = s.idxLo ii) ∧
    (Completes (.ldDIih ii) [ii.byte, 0x54] s 8 { regs := [.d] } fun t => t.d = s.idxHi ii) ∧
    (Completes (.ldDIil ii) [ii.byte, 0x55] s 8 { regs := [.d] } fun t => t.d = s.idxLo ii) ∧
    (Completes (.ldEIih ii) [ii.byte, 0x5C] s 8 { regs := [.e] } fun t => t.e = s.idxHi ii) ∧
    (Completes (.ldEIil ii) [ii.byte, 0x5D] s 8 { regs := [.e] } fun t => t.e = s.idxLo ii) ∧
    (Completes (.ldAIih ii) [ii.byte, 0x7C] s 8 { regs := [.a] } fun t => t.a = s.idxHi ii) ∧
    (Completes (.ldAIil ii) [ii.byte, 0x7D] s 8 { regs := [.a] } fun t => t.a = s.idxLo ii) ∧
    Completes (.ldIihB ii) [ii.byte, 0x60] s 8 { idx := [ii] } (hiBecomes ii s.b s) ∧
    Completes (.ldIihC ii) [ii.byte, 0x61] s 8 { idx := [ii] } (hiBecomes ii s.c s) ∧
    Completes (.ldIihD ii) [ii.byte, 0x62] s 8 { idx := [ii] } (hiBecomes ii s.d s) ∧
    Completes (.ldIihE ii) [ii.byte, 0x63] s 8 { idx := [ii] } (hiBecomes ii s.e s) ∧
    Completes (.ldIihIih ii) [ii.byte, 0x64] s 8 {} (hiBecomes ii (s.idxHi ii) s) ∧
    Completes (.ldIihIil ii) [ii.byte, 0x65] s 8 { idx := [ii] } (hiBecomes ii (s.idxLo ii) s) ∧
    Completes (.ldIihA ii) [ii.byte, 0x67] s 8 { idx := [ii] } (hiBecomes ii s.a s) ∧
    Completes (.ldIilB ii) [ii.byte, 0x68] s 8 { idx := [ii] } (loBecomes ii s.b s) ∧
    Completes (.ldIilC ii) [ii.byte, 0x69] s 8 { idx := [ii] } (loBecomes ii s.c s) ∧
    Completes (.ldIilD ii) [ii.byte, 0x6A] s 8 { idx := [ii] } (loBecomes ii s.d s) ∧
    Completes (.ldIilE ii) [ii.byte, 0x6B] s 8 { idx := [ii] } (loBecomes ii s.e s) ∧
    Completes (.ldIilIih ii) [ii.byte, 0x6C] s 8 { idx := [ii] } (loBecomes ii (s.idxHi ii) s) ∧
    Completes (.ldIilIil ii) [ii.byte, 0x6D] s 8 {} (loBecomes ii (s.idxLo ii) s) ∧
    Completes (.ldIilA ii) [ii.byte, 0x6F] s 8 { idx := [ii] } (loBecomes ii s.a s) ∧
    ∀ n,
      Completes (.ldIihN ii n) [ii.byte, 0x26, n] s 11 { idx := [ii] } (hiBecomes ii n s) ∧
      Completes (.ldIilN ii n) [ii.byte, 0x2E, n] s 11 { idx := [ii] } (loBecomes ii n s)

/-- 16-bit loads and stores: immediates, memory words (the low byte at nn, the high byte at nn + 1), and SP. -/
def Obligations.WordLoadsAndStores : Prop :=
  (∀ s : State,
     (∀ rr nn, Completes (.ldRrNn rr nn) [opPQ 0 rr.code 0 1, loByte nn, hiByte nn] s 10 (pairTouch rr) fun t => t.get16 rr = nn) ∧
     (∀ ii nn, Completes (.ldIiNn ii nn) [ii.byte, 0x21, loByte nn, hiByte nn] s 14 { idx := [ii] } fun t => t.idx ii = nn) ∧
     (Completes .ldSpHl [0xF9] s 6 { sp := true } fun t => t.sp = s.hl) ∧
     (∀ ii, Completes (.ldSpIi ii) [ii.byte, 0xF9] s 10 { sp := true } fun t => t.sp = s.idx ii) ∧
     (s.params.memFault = false → ∀ nn,
       (Completes (.ldHlMemNn nn) [0x2A, loByte nn, hiByte nn] s 16 (pairTouch .hl) fun t => t.hl = s.peekWord nn) ∧
       (∀ rr, Completes (.ldRrMemNn rr nn) [0xED, opPQ 1 rr.code 1 3, loByte nn, hiByte nn] s 20 (pairTouch rr) fun t =>
         t.get16 rr = s.peekWord nn) ∧
       ∀ ii, Completes (.ldIiMemNn ii nn) [ii.byte, 0x2A, loByte nn, hiByte nn] s 20 { idx := [ii] } fun t => t.idx ii = s.peekWord nn)) ∧
  ∀ (s : State) (nn : Word), s.params.memFault = false →
    (Completes (.ldMemNnHl nn) [0x22, loByte nn, hiByte nn] s 16 { bytes := wordBytes nn } fun t => holdsWord t nn s.hl) ∧
    (∀ rr, Completes (.ldMemNnRr rr nn) [0xED, opPQ 1 rr.code 0 3, loByte nn, hiByte nn] s 20 { bytes := wordBytes nn } fun t =>
      holdsWord t nn (s.get16 rr)) ∧
    ∀ ii, Completes (.ldMemNnIi ii nn) [ii.byte, 0x22, loByte nn, hiByte nn] s 20 { bytes := wordBytes nn } fun t =>
      holdsWord t nn (s.idx ii)

/-- PUSH and POP: SP moves by 2 and wraps; POP AF writes all eight bits of F under every `XY_MODE`. -/
def Obligations.PushAndPop : Prop :=
  ∀ s : State, s.params.memFault = false →
    (∀ qq, Completes (.pushQq qq) [opPQ 3 qq.code 0 5] s 11 { sp := true, bytes := wordBytes (s.sp - 2) } fun t =>
      t.sp = s.sp - 2 ∧ holdsWord t (s.sp - 2) (s.getQQ qq)) ∧
    (∀ ii, Completes (.pushIi ii) [ii.byte, 0xE5] s 15 { sp := true, bytes := wordBytes (s.sp - 2) } fun t =>
      t.sp = s.sp - 2 ∧ holdsWord t (s.sp - 2) (s.idx ii)) ∧
    (Completes (.popQq .bc) [0xC1] s 10 { regs := [.b, .c], sp := true } fun t => t.sp = s.sp + 2 ∧ t.bc = s.peekWord s.sp) ∧
    (Completes (.popQq .de) [0xD1] s 10 { regs := [.d, .e], sp := true } fun t => t.sp = s.sp + 2 ∧ t.de = s.peekWord s.sp) ∧
    (Completes (.popQq .hl) [0xE1] s 10 { regs := [.h, .l], sp := true } fun t => t.sp = s.sp + 2 ∧ t.hl = s.peekWord s.sp) ∧
    (Completes .popAf [0xF1] s 10 { regs := [.a], sp := true, flags := true } fun t =>
      t.sp = s.sp + 2 ∧ t.a = s.peek (s.sp + 1) ∧ t.f.toByte = s.peek s.sp) ∧
    ∀ ii, Completes (.popIi ii) [ii.byte, 0xE1] s 14 { idx := [ii], sp := true } fun t =>
      t.sp = s.sp + 2 ∧ t.idx ii = s.peekWord s.sp

/-- What was pushed is popped: after a PUSH, any state with that stack pointer and memory pops the same value and the old SP; a CALL
or RST followed so by RET returns to the pushed PC. -/
def Obligations.StackRoundTrips : Prop :=
  ∀ s : State, s.params.memFault = false →
    (∀ p : StackPair, ∃ t, exec (.pushQq p) s = .next t ∧
      ∀ t' : State, t'.sp = t.sp → t'.mem = t.mem → t'.params.memFault = false →
        (∀ q, q ≠ .af → ∃ u, exec (.popQq q) t' = .next u ∧ u.getQQ q = s.getQQ p ∧ u.sp = s.sp) ∧
        ∃ u, exec .popAf t' = .next u ∧ u.getQQ .af = s.getQQ p ∧ u.sp = s.sp) ∧
    (∀ ii jj, ∃ t, exec (.pushIi ii) s = .next t ∧
      ∀ t' : State, t'.sp = t.sp → t'.mem = t.mem → t'.params.memFault = false →
        ∃ u, exec (.popIi jj) t' = .next u ∧ u.idx jj = s.idx ii ∧ u.sp = s.sp) ∧
    (∀ i, ((∃ nn, i = .callNn nn) ∨ ∃ y, i = .rstP y) → ∃ t, exec i s = .next t ∧
      ∀ t' : State, t'.sp = t.sp → t'.mem = t.mem → t'.params.memFault = false →
        ∃ u, exec .ret t' = .next u ∧ u.pc = s.pc ∧ u.sp = s.sp)

/-! ### Exchanges and blocks (42_exchange_block.md) -/

/-- EX AF,AF'; EXX; EX DE,HL; EX (SP),HL; EX (SP),ii. -/
def Obligations.Exchanges : Prop :=
  ∀ s : State,
    (Completes .exAfAf [0x08] s 4 { regs := [.a], flags := true, shadowAf := true } fun t =>
      t.a = s.aAlt ∧ t.f = s.fAlt ∧ t.aAlt = s.a ∧ t.fAlt = s.f) ∧
    (Completes .exx [0xD9] s 4 { regs := [.b, .c, .d, .e, .h, .l], shadowBank := true } fun t =>
      t.b = s.bAlt ∧ t.c = s.cAlt ∧ t.d = s.dAlt ∧ t.e = s.eAlt ∧ t.h = s.hAlt ∧ t.l = s.lAlt ∧
      t.bAlt = s.b ∧ t.cAlt = s.c ∧ t.dAlt = s.d ∧ t.eAlt = s.e ∧ t.hAlt = s.h ∧ t.lAlt = s.l) ∧
    (Completes .exDeHl [0xEB] s 4 { regs := [.d, .e, .h, .l] } fun t => t.de = s.hl ∧ t.hl = s.de) ∧
    (s.params.memFault = false →
      (Completes .exMemSpHl [0xE3] s 19 { regs := [.h, .l], bytes := wordBytes s.sp } fun t =>
        t.hl = s.peekWord s.sp ∧ holdsWord t s.sp s.hl) ∧
      ∀ ii, Completes (.exMemSpIi ii) [ii.byte, 0xE3] s 23 { idx := [ii], bytes := wordBytes s.sp } fun t =>
        t.idx ii = s.peekWord s.sp ∧ holdsWord t s.sp (s.idx ii))

/-- An exchange done twice restores every register, flag and byte of memory; only `cycles` has moved, by twice the cost. -/
def Obligations.ExchangeTwice : Prop :=
  ∀ s : State,
    (∃ t, exec .exAfAf s = .next t ∧ exec .exAfAf t = .next (s.spend (2 * cost s.params.costs .exAfAf false))) ∧
    (∃ t, exec .exx s = .next t ∧ exec .exx t = .next (s.spend (2 * cost s.params.costs .exx false))) ∧
    (∃ t, exec .exDeHl s = .next t ∧ exec .exDeHl t = .next (s.spend (2 * cost s.params.costs .exDeHl false))) ∧
    (s.params.memFault = false → ∃ t u, exec .exMemSpHl s = .next t ∧ exec .exMemSpHl t = .next u ∧
      s.sameBut {} u ∧ u.cycles = s.cycles + BitVec.ofNat 64 (2 * cost s.params.costs .exMemSpHl false))

/-- LDI, LDD, LDIR, LDDR: one iteration; the repeating forms go back to their ED byte while BC is not 0. -/
def Obligations.BlockMoves : Prop :=
  ∀ s : State, s.params.memFault = false →
    Completes .ldi [0xED, 0xA0] s 16 (moveTouch s) (moveEffect s 1) ∧
    Completes .ldd [0xED, 0xA8] s 16 (moveTouch s) (moveEffect s (-1)) ∧
    (Completes .ldir [0xED, 0xB0] s (if s.bc - 1 != 0 then 21 else 16) { moveTouch s with pc := true } fun t =>
      moveEffect s 1 t ∧ repeats s (s.bc - 1 != 0) t) ∧
    (Completes .lddr [0xED, 0xB8] s (if s.bc - 1 != 0 then 21 else 16) { moveTouch s with pc := true } fun t =>
      moveEffect s (-1) t ∧ repeats s (s.bc - 1 != 0) t)

/-- CPI, CPD, CPIR, CPDR: one iteration; the repeating forms go back while BC is not 0 and there is no match. -/
def Obligations.BlockCompares : Prop :=
  ∀ s : State, s.params.memFault = false →
    let again := s.bc - 1 != 0 && s.a != s.peek s.hl
    Completes .cpi [0xED, 0xA1] s 16 compareTouch (compareEffect s 1) ∧
    Completes .cpd [0xED, 0xA9] s 16 compareTouch (compareEffect s (-1)) ∧
    (Completes .cpir [0xED, 0xB1] s (if again then 21 else 16) { compareTouch with pc := true } fun t =>
      compareEffect s 1 t ∧ repeats s again t) ∧
    (Completes .cpdr [0xED, 0xB9] s (if again then 21 else 16) { compareTouch with pc := true } fun t =>
      compareEffect s (-1) t ∧ repeats s again t)

/-! ### 8-bit arithmetic (43_arith8.md) -/

/-- ADD and ADC, in all six forms. -/
def Obligations.AddAndAdc : Prop :=
  sixForms 0 .addAR .addAN .addAIih .addAIil .addAMemHl .addAMemIid { regs := [.a], flags := true }
    (fun s v t => addEffect s false v t) ∧
  sixForms 1 .adcAR .adcAN .adcAIih .adcAIil .adcAMemHl .adcAMemIid { regs := [.a], flags := true }
    (fun s v t => addEffect s s.f.c v t)

/-- SUB and SBC, in all six forms. -/
def Obligations.SubAndSbc : Prop :=
  sixForms 2 .subR .subN .subIih .subIil .subMemHl .subMemIid { regs := [.a], flags := true }
    (fun s v t => subEffect s s.a false v t) ∧
  sixForms 3 .sbcAR .sbcAN .sbcAIih .sbcAIil .sbcAMemHl .sbcAMemIid { regs := [.a], flags := true }
    (fun s v t => subEffect s s.a s.f.c v t)

/-- AND, XOR and OR, in all six forms. -/
def Obligations.LogicOperations : Prop :=
  sixForms 4 .andR .andN .andIih .andIil .andMemHl .andMemIid { regs := [.a], flags := true }
    (fun s v t => logicEffect (· &&& ·) true s v t) ∧
  sixForms 5 .xorR .xorN .xorIih .xorIil .xorMemHl .xorMemIid { regs := [.a], flags := true }
    (fun s v t => logicEffect (· ^^^ ·) false s v t) ∧
  sixForms 6 .orR .orN .orIih .orIil .orMemHl .orMemIid { regs := [.a], flags := true }
    (fun s v t => logicEffect (· ||| ·) false s v t)

/-- CP, in all six forms: the flags of SUB, A unchanged, Y and X from the operand under silicon. -/
def Obligations.Compare : Prop :=
  sixForms 7 .cpR .cpN .cpIih .cpIil .cpMemHl .cpMemIid { flags := true }
    (fun s v t => subFlags s.a v false (s.a - v) t ∧ xyOf s t v)

/-- PV after an addition or subtraction is signed overflow: the exact result is outside -128 to 127, or -32768 to 32767. -/
def Obligations.OverflowIsSigned : Prop :=
  (∀ (f : Flags) (a b : Byte) (cin : Bool),
    ((add8Flags f a b cin).pv = true ↔ a.toInt + b.toInt + cin.toNat < -128 ∨ 127 < a.toInt + b.toInt + cin.toNat) ∧
    ((sub8Flags f a b cin).pv = true ↔ a.toInt - b.toInt - cin.toNat < -128 ∨ 127 < a.toInt - b.toInt - cin.toNat)) ∧
  ∀ (f : Flags) (a b : Word) (cin : Bool),
    ((adc16Flags f a b cin).pv = true ↔ a.toInt + b.toInt + cin.toNat < -32768 ∨ 32767 < a.toInt + b.toInt + cin.toNat) ∧
    ((sbc16Flags f a b cin).pv = true ↔ a.toInt - b.toInt - cin.toNat < -32768 ∨ 32767 < a.toInt - b.toInt - cin.toNat)

/-- INC and DEC of a register, of memory and of an index half; C is kept. -/
def Obligations.IncrementAndDecrement : Prop :=
  ∀ s : State,
    (∀ r, Completes (.incR r) [opByte 0 r.code 4] s 4 { regs := [r], flags := true } fun t =>
      t.get8 r = s.get8 r + 1 ∧ incEffect s (s.get8 r) t) ∧
    (∀ r, Completes (.decR r) [opByte 0 r.code 5] s 4 { regs := [r], flags := true } fun t =>
      t.get8 r = s.get8 r - 1 ∧ decEffect s (s.get8 r) t) ∧
    (∀ ii, Completes (.incIih ii) [ii.byte, 0x24] s 8 { idx := [ii], flags := true } fun t =>
      hiBecomes ii (s.idxHi ii + 1) s t ∧ incEffect s (s.idxHi ii) t) ∧
    (∀ ii, Completes (.incIil ii) [ii.byte, 0x2C] s 8 { idx := [ii], flags := true } fun t =>
      loBecomes ii (s.idxLo ii + 1) s t ∧ incEffect s (s.idxLo ii) t) ∧
    (∀ ii, Completes (.decIih ii) [ii.byte, 0x25] s 8 { idx := [ii], flags := true } fun t =>
      hiBecomes ii (s.idxHi ii - 1) s t ∧ decEffect s (s.idxHi ii) t) ∧
    (∀ ii, Completes (.decIil ii) [ii.byte, 0x2D] s 8 { idx := [ii], flags := true } fun t =>
      loBecomes ii (s.idxLo ii - 1) s t ∧ decEffect s (s.idxLo ii) t) ∧
    (s.params.memFault = false →
      (Completes .incMemHl [0x34] s 11 { flags := true, bytes := [s.hl] } fun t =>
        t.peek s.hl = s.peek s.hl + 1 ∧ incEffect s (s.peek s.hl) t) ∧
      (Completes .decMemHl [0x35] s 11 { flags := true, bytes := [s.hl] } fun t =>
        t.peek s.hl = s.peek s.hl - 1 ∧ decEffect s (s.peek s.hl) t) ∧
      ∀ ii d,
        (Completes (.incMemIid ii d) [ii.byte, 0x34, d] s 23 { flags := true, bytes := [s.ea ii d] } fun t =>
          t.peek (s.ea ii d) = s.peek (s.ea ii d) + 1 ∧ incEffect s (s.peek (s.ea ii d)) t) ∧
        (Completes (.decMemIid ii d) [ii.byte, 0x35, d] s 23 { flags := true, bytes := [s.ea ii d] } fun t =>
          t.peek (s.ea ii d) = s.peek (s.ea ii d) - 1 ∧ decEffect s (s.peek (s.ea ii d)) t))

/-- DAA (the correction, the result, the flags), CPL, NEG and its duplicates, CCF, SCF.  Y and X after CCF and SCF are drawn under
every mode. -/
def Obligations.AccumulatorAdjustments : Prop :=
  (∀ s : State,
     let low := decide (s.a.toNat % 16 > 9)
     let big := decide (s.a.toNat > 0x99)
     let corr : Nat := (if s.f.h || low then 6 else 0) + (if s.f.c || big then 0x60 else 0)
     Completes .daa [0x27] s 4 { regs := [.a], flags := true } fun t =>
       t.a = (if s.f.n then BitVec.ofInt 8 ((s.a.toNat : Int) - corr) else BitVec.ofNat 8 (s.a.toNat + corr)) ∧
       flagsAre t t.a.msb (t.a == 0) (if s.f.n then s.f.h && decide (s.a.toNat % 16 < 6) else low) (evenOnes t.a) s.f.n (s.f.c || big) ∧
       xyOf s t t.a) ∧
  ∀ s : State,
    (Completes .cpl [0x2F] s 4 { regs := [.a], flags := true } fun t =>
      t.a.toNat = 255 - s.a.toNat ∧ flagsAre t s.f.s s.f.z true s.f.pv true s.f.c ∧ xyOf s t t.a) ∧
    (∀ i y, (i = .neg ∧ y = 0) ∨ (i = .negDup y ∧ i.wf = true) →
      Completes i [0xED, opByte 1 y 4] s 8 { regs := [.a], flags := true } fun t =>
        subEffect s 0 false s.a t ∧ t.f.pv = (s.a == 0x80) ∧ t.f.c = (s.a != 0)) ∧
    (Completes .ccf [0x3F] s 4 { flags := true } fun t => flagsAre t s.f.s s.f.z s.f.c s.f.pv false (!s.f.c)) ∧
    (Completes .scf [0x37] s 4 { flags := true } fun t => flagsAre t s.f.s s.f.z false s.f.pv false true)

/-- DAA makes addition and subtraction decimal: on packed decimal operands, ADD or ADC then DAA gives the decimal sum and its carry,
SUB or SBC then DAA the decimal difference and its borrow. -/
def Obligations.DecimalArithmetic : Prop :=
  ∀ (f : Flags) (a b : Byte) (cin : Bool) (m n : Nat), bcd a = some m → bcd b = some n →
    (bcd (daa (add8Flags f a b cin) (add8 a b cin)) = some ((m + n + cin.toNat) % 100) ∧
      (daaFlags (add8Flags f a b cin) (add8 a b cin)).c = decide (m + n + cin.toNat > 99)) ∧
    (bcd (daa (sub8Flags f a b cin) (sub8 a b cin)) = some ((m + 100 - n - cin.toNat) % 100) ∧
      (daaFlags (sub8Flags f a b cin) (sub8 a b cin)).c = decide (m < n + cin.toNat))

/-! ### 16-bit arithmetic (44_arith16.md) -/

/-- ADD HL,rr and ADD ii,rr (S, Z and PV are kept), ADC HL,rr and SBC HL,rr. -/
def Obligations.WordArithmetic : Prop :=
  (∀ s : State,
     (∀ rr, Completes (.addHlRr rr) [opPQ 0 rr.code 1 1] s 11 { regs := [.h, .l], flags := true } fun t =>
       add16Effect s s.hl (s.get16 rr) t.hl t) ∧
     ∀ ii,
       (Completes (.addIiBc ii) [ii.byte, 0x09] s 15 { idx := [ii], flags := true } fun t =>
         add16Effect s (s.idx ii) s.bc (t.idx ii) t) ∧
       (Completes (.addIiDe ii) [ii.byte, 0x19] s 15 { idx := [ii], flags := true } fun t =>
         add16Effect s (s.idx ii) s.de (t.idx ii) t) ∧
       (Completes (.addIiIi ii) [ii.byte, 0x29] s 15 { idx := [ii], flags := true } fun t =>
         add16Effect s (s.idx ii) (s.idx ii) (t.idx ii) t) ∧
       (Completes (.addIiSp ii) [ii.byte, 0x39] s 15 { idx := [ii], flags := true } fun t =>
         add16Effect s (s.idx ii) s.sp (t.idx ii) t)) ∧
  ∀ (s : State) (rr : Pair),
    (Completes (.adcHlRr rr) [0xED, opPQ 1 rr.code 1 2] s 15 { regs := [.h, .l], flags := true } fun t =>
      t.hl = BitVec.ofNat 16 (s.hl.toNat + (s.get16 rr).toNat + s.f.c.toNat) ∧
      flagsAre t t.hl.msb (t.hl == 0) (decide (s.hl.toNat % 4096 + (s.get16 rr).toNat % 4096 + s.f.c.toNat > 4095))
        ((s.hl ^^^ t.hl) &&& (s.get16 rr ^^^ t.hl)).msb false (decide (s.hl.toNat + (s.get16 rr).toNat + s.f.c.toNat > 65535)) ∧
      xyOf s t t.h) ∧
    (Completes (.sbcHlRr rr) [0xED, opPQ 1 rr.code 0 2] s 15 { regs := [.h, .l], flags := true } fun t =>
      t.hl = BitVec.ofInt 16 ((s.hl.toNat : Int) - (s.get16 rr).toNat - s.f.c.toNat) ∧
      flagsAre t t.hl.msb (t.hl == 0) (decide (s.hl.toNat % 4096 < (s.get16 rr).toNat % 4096 + s.f.c.toNat))
        ((s.hl ^^^ s.get16 rr) &&& (s.hl ^^^ t.hl)).msb true (decide (s.hl.toNat < (s.get16 rr).toNat + s.f.c.toNat)) ∧
      xyOf s t t.h)

/-- INC and DEC of a pair or an index register: modulo 2^16, no flag. -/
def Obligations.WordIncDec : Prop :=
  ∀ s : State,
    (∀ rr, Completes (.incRr rr) [opPQ 0 rr.code 0 3] s 6 (pairTouch rr) fun t =>
      (t.get16 rr).toNat = ((s.get16 rr).toNat + 1) % 65536) ∧
    (∀ rr, Completes (.decRr rr) [opPQ 0 rr.code 1 3] s 6 (pairTouch rr) fun t =>
      (t.get16 rr).toNat = ((s.get16 rr).toNat + 65535) % 65536) ∧
    (∀ ii, Completes (.incIi ii) [ii.byte, 0x23] s 10 { idx := [ii] } fun t => (t.idx ii).toNat = ((s.idx ii).toNat + 1) % 65536) ∧
    (∀ ii, Completes (.decIi ii) [ii.byte, 0x2B] s 10 { idx := [ii] } fun t => (t.idx ii).toNat = ((s.idx ii).toNat + 65535) % 65536)

/-! ### Rotates, shifts and bits (45_rotate_bit.md) -/

/-- RLCA, RRCA, RLA, RRA: S, Z and PV are kept. -/
def Obligations.AccumulatorRotates : Prop :=
  ∀ s : State,
    let left := s.a.toNat / 128
    let right := s.a.toNat % 2
    (Completes .rlca [0x07] s 4 { regs := [.a], flags := true } fun t =>
      t.a.toNat = s.a.toNat * 2 % 256 + left ∧ flagsAre t s.f.s s.f.z false s.f.pv false (left == 1) ∧ xyOf s t t.a) ∧
    (Completes .rrca [0x0F] s 4 { regs := [.a], flags := true } fun t =>
      t.a.toNat = s.a.toNat / 2 + 128 * right ∧ flagsAre t s.f.s s.f.z false s.f.pv false (right == 1) ∧ xyOf s t t.a) ∧
    (Completes .rla [0x17] s 4 { regs := [.a], flags := true } fun t =>
      t.a.toNat = s.a.toNat * 2 % 256 + s.f.c.toNat ∧ flagsAre t s.f.s s.f.z false s.f.pv false (left == 1) ∧ xyOf s t t.a) ∧
    (Completes .rra [0x1F] s 4 { regs := [.a], flags := true } fun t =>
      t.a.toNat = s.a.toNat / 2 + 128 * s.f.c.toNat ∧ flagsAre t s.f.s s.f.z false s.f.pv false (right == 1) ∧ xyOf s t t.a)

/-- RLC, RRC, RL, RR, SLA, SRA, SLL, SRL, in all four forms; the results are said as numbers. -/
def Obligations.RotatesAndShifts : Prop :=
  let top := fun (v : Byte) => v.toNat / 128 == 1
  let bottom := fun (v : Byte) => v.toNat % 2 == 1
  fourForms 0 .rlcR .rlcMemHl .rlcMemIid .rlcMemIidR (fun v _ => BitVec.ofNat 8 (v.toNat * 2 % 256 + v.toNat / 128)) top ∧
  fourForms 1 .rrcR .rrcMemHl .rrcMemIid .rrcMemIidR (fun v _ => BitVec.ofNat 8 (v.toNat / 2 + 128 * (v.toNat % 2))) bottom ∧
  fourForms 2 .rlR .rlMemHl .rlMemIid .rlMemIidR (fun v c => BitVec.ofNat 8 (v.toNat * 2 % 256 + c.toNat)) top ∧
  fourForms 3 .rrR .rrMemHl .rrMemIid .rrMemIidR (fun v c => BitVec.ofNat 8 (v.toNat / 2 + 128 * c.toNat)) bottom ∧
  fourForms 4 .slaR .slaMemHl .slaMemIid .slaMemIidR (fun v _ => BitVec.ofNat 8 (v.toNat * 2 % 256)) top ∧
  fourForms 5 .sraR .sraMemHl .sraMemIid .sraMemIidR (fun v _ => BitVec.ofNat 8 (v.toNat / 2 + 128 * (v.toNat / 128))) bottom ∧
  fourForms 6 .sllR .sllMemHl .sllMemIid .sllMemIidR (fun v _ => BitVec.ofNat 8 (v.toNat * 2 % 256 + 1)) top ∧
  fourForms 7 .srlR .srlMemHl .srlMemIid .srlMemIidR (fun v _ => BitVec.ofNat 8 (v.toNat / 2)) bottom

/-- RLD and RRD, digit by digit. -/
def Obligations.DigitRotates : Prop :=
  ∀ s : State, s.params.memFault = false →
    let t0 := (s.peek s.hl).toNat
    (Completes .rld [0xED, 0x6F] s 18 { regs := [.a], flags := true, bytes := [s.hl] } fun t =>
      (t.peek s.hl).toNat = t0 % 16 * 16 + s.a.toNat % 16 ∧ t.a.toNat = s.a.toNat / 16 * 16 + t0 / 16 ∧ byteEffect s t.a t) ∧
    (Completes .rrd [0xED, 0x67] s 18 { regs := [.a], flags := true, bytes := [s.hl] } fun t =>
      (t.peek s.hl).toNat = s.a.toNat % 16 * 16 + t0 / 16 ∧ t.a.toNat = s.a.toNat / 16 * 16 + t0 % 16 ∧ byteEffect s t.a t)

/-- BIT on a register, on (HL) and on (ii+d), every z.  Y and X come from the register, are drawn, or come from the high byte of EA. -/
def Obligations.BitTests : Prop :=
  ∀ (s : State) (n : BitVec 3),
    (∀ r, Completes (.bitBR n r) [0xCB, opByte 1 n r.code] s 8 { flags := true } fun t =>
      bitEffect s n (s.get8 r) t ∧ xyOf s t (s.get8 r)) ∧
    (s.params.memFault = false →
      (Completes (.bitBMemHl n) [0xCB, opByte 1 n 6] s 12 { flags := true } fun t => bitEffect s n (s.peek s.hl) t) ∧
      ∀ ii d z, Completes (.bitBMemIid ii d n z) [ii.byte, 0xCB, d, opByte 1 n z] s 20 { flags := true } fun t =>
        bitEffect s n (s.peek (s.ea ii d)) t ∧ xyOf s t (hiByte (s.ea ii d)))

/-- RES and SET, in all four forms: one bit is written, no flag. -/
def Obligations.BitWrites : Prop :=
  ∀ (s : State) (n : BitVec 3),
    (∀ r, Completes (.resBR n r) [0xCB, opByte 2 n r.code] s 8 { regs := [r] } fun t => bitGiven n false (s.get8 r) (t.get8 r)) ∧
    (∀ r, Completes (.setBR n r) [0xCB, opByte 3 n r.code] s 8 { regs := [r] } fun t => bitGiven n true (s.get8 r) (t.get8 r)) ∧
    (s.params.memFault = false →
      (Completes (.resBMemHl n) [0xCB, opByte 2 n 6] s 15 { bytes := [s.hl] } fun t =>
        bitGiven n false (s.peek s.hl) (t.peek s.hl)) ∧
      (Completes (.setBMemHl n) [0xCB, opByte 3 n 6] s 15 { bytes := [s.hl] } fun t =>
        bitGiven n true (s.peek s.hl) (t.peek s.hl)) ∧
      ∀ ii d,
        (Completes (.resBMemIid ii d n) [ii.byte, 0xCB, d, opByte 2 n 6] s 23 { bytes := [s.ea ii d] } fun t =>
          bitGiven n false (s.peek (s.ea ii d)) (t.peek (s.ea ii d))) ∧
        (Completes (.setBMemIid ii d n) [ii.byte, 0xCB, d, opByte 3 n 6] s 23 { bytes := [s.ea ii d] } fun t =>
          bitGiven n true (s.peek (s.ea ii d)) (t.peek (s.ea ii d))) ∧
        ∀ r,
          (Completes (.resBMemIidR ii d n r) [ii.byte, 0xCB, d, opByte 2 n r.code] s 23 { regs := [r], bytes := [s.ea ii d] } fun t =>
            bitGiven n false (s.peek (s.ea ii d)) (t.peek (s.ea ii d)) ∧ t.get8 r = t.peek (s.ea ii d)) ∧
          (Completes (.setBMemIidR ii d n r) [ii.byte, 0xCB, d, opByte 3 n r.code] s 23 { regs := [r], bytes := [s.ea ii d] } fun t =>
            bitGiven n true (s.peek (s.ea ii d)) (t.peek (s.ea ii d)) ∧ t.get8 r = t.peek (s.ea ii d)))

/-! ### Control (46_control.md) -/

/-- The eight conditions; JP, JP cc, JP (HL), JP (ii), JR, JR cc and DJNZ.  A relative target is PC past the instruction plus the
signed displacement, modulo 2^16. -/
def Obligations.Jumps : Prop :=
  (∀ s : State,
     (s.cond .nz = true ↔ s.f.toByte.getLsbD 6 = false) ∧ (s.cond .z = true ↔ s.f.toByte.getLsbD 6 = true) ∧
     (s.cond .nc = true ↔ s.f.toByte.getLsbD 0 = false) ∧ (s.cond .c = true ↔ s.f.toByte.getLsbD 0 = true) ∧
     (s.cond .po = true ↔ s.f.toByte.getLsbD 2 = false) ∧ (s.cond .pe = true ↔ s.f.toByte.getLsbD 2 = true) ∧
     (s.cond .p = true ↔ s.f.toByte.getLsbD 7 = false) ∧ (s.cond .m = true ↔ s.f.toByte.getLsbD 7 = true)) ∧
  ∀ s : State,
    let rel := fun (e : Byte) => BitVec.ofInt 16 ((s.pc.toNat : Int) + e.toInt)
    (∀ nn, Completes (.jpNn nn) [0xC3, loByte nn, hiByte nn] s 10 { pc := true } fun t => t.pc = nn) ∧
    (∀ cc nn, Completes (.jpCcNn cc nn) [opByte 3 cc.code 2, loByte nn, hiByte nn] s 10 { pc := true } fun t =>
      t.pc = if s.cond cc then nn else s.pc) ∧
    (Completes .jpHl [0xE9] s 4 { pc := true } fun t => t.pc = s.hl) ∧
    (∀ ii, Completes (.jpIi ii) [ii.byte, 0xE9] s 8 { pc := true } fun t => t.pc = s.idx ii) ∧
    (∀ e, Completes (.jrE e) [0x18, e] s 12 { pc := true } fun t => t.pc = rel e) ∧
    (∀ cc e, cc.isShort = true →
      Completes (.jrCcE cc e) [opByte 0 (4 + cc.code) 0, e] s (if s.cond cc then 12 else 7) { pc := true } fun t =>
        t.pc = if s.cond cc then rel e else s.pc) ∧
    (∀ e, Completes (.djnzE e) [0x10, e] s (if s.b != 1 then 13 else 8) { regs := [.b], pc := true } fun t =>
      t.b = s.b - 1 ∧ t.pc = if s.b != 1 then rel e else s.pc)

/-- CALL, CALL cc and RST: the pushed value is PC past the instruction. -/
def Obligations.Calls : Prop :=
  ∀ s : State, s.params.memFault = false →
    let called := fun (a : Word) (t : State) => t.pc = a ∧ t.sp = s.sp - 2 ∧ holdsWord t (s.sp - 2) s.pc
    let touch : Touch := { pc := true, sp := true, bytes := wordBytes (s.sp - 2) }
    (∀ nn, Completes (.callNn nn) [0xCD, loByte nn, hiByte nn] s 17 touch (called nn)) ∧
    (∀ cc nn, s.cond cc = true → Completes (.callCcNn cc nn) [opByte 3 cc.code 4, loByte nn, hiByte nn] s 17 touch (called nn)) ∧
    (∀ cc nn, s.cond cc = false → Completes (.callCcNn cc nn) [opByte 3 cc.code 4, loByte nn, hiByte nn] s 10 {} fun _ => True) ∧
    (∀ y, Completes (.rstP y) [opByte 3 y 7] s 11 touch (called (BitVec.ofNat 16 (8 * y.toNat))))

/-- RET, RET cc, RETN and its duplicates, RETI: only the last three copy IFF2 to IFF1. -/
def Obligations.Returns : Prop :=
  ∀ s : State, s.params.memFault = false →
    let returned := fun (t : State) => t.pc = s.peekWord s.sp ∧ t.sp = s.sp + 2
    (Completes .ret [0xC9] s 10 { pc := true, sp := true } returned) ∧
    (∀ cc, s.cond cc = true → Completes (.retCc cc) [opByte 3 cc.code 0] s 11 { pc := true, sp := true } returned) ∧
    (∀ cc, s.cond cc = false → Completes (.retCc cc) [opByte 3 cc.code 0] s 5 {} fun _ => True) ∧
    (∀ i y, (i = .retn ∧ y = 0) ∨ (i = .reti ∧ y = 1) ∨ (i = .retnDup y ∧ i.wf = true) →
      Completes i [0xED, opByte 1 y 5] s 14 { pc := true, sp := true, iff1 := true } fun t => returned t ∧ t.iff1 = s.iff2)

/-! ### CPU control, special registers and I/O (47_cpu_control_io.md) -/

/-- NOP, HALT, DI, EI, IM with its duplicates, and the no-op forms: a lone DD or FD sets the boundary latch, an unmapped ED byte
reports the address of the ED byte and the two bytes. -/
def Obligations.CpuControl : Prop :=
  (∀ s : State,
     (Completes .nop [0x00] s 4 {} fun _ => True) ∧
     (Completes .halt [0x76] s 4 { halted := true } fun t => t.halted = true) ∧
     (Completes .di [0xF3] s 4 { iff1 := true, iff2 := true } fun t => t.iff1 = false ∧ t.iff2 = false) ∧
     (Completes .ei [0xFB] s 4 { iff1 := true, iff2 := true, intBlock := true } fun t =>
       t.iff1 = true ∧ t.iff2 = true ∧ t.intBlock = .afterEI) ∧
     (Completes .im0 [0xED, 0x46] s 8 { im := true } fun t => t.im = 0) ∧
     (∀ y, (Instr.im0Dup y).wf = true → Completes (.im0Dup y) [0xED, opByte 1 y 6] s 8 { im := true } fun t => t.im = 0) ∧
     (Completes .im1 [0xED, 0x56] s 8 { im := true } fun t => t.im = 1) ∧
     (Completes .im1Dup [0xED, 0x76] s 8 { im := true } fun t => t.im = 1) ∧
     (Completes .im2 [0xED, 0x5E] s 8 { im := true } fun t => t.im = 2) ∧
     (Completes .im2Dup [0xED, 0x7E] s 8 { im := true } fun t => t.im = 2)) ∧
  ∀ s : State,
    (∀ ii, Completes (.lonePrefix ii) [ii.byte] s 4 { intBlock := true } fun t => t.intBlock = .afterPrefix) ∧
    (∀ op, (Instr.unmappedEd op).wf = true → Completes (.unmappedEd op) [0xED, op] s 8 { diag := true } fun t =>
      t.diag = s.diag ++ [.unknownOpcode (s.pc - 2) 0xED op])

/-- LD I,A; LD R,A; LD A,I; LD A,R: PV takes IFF2. -/
def Obligations.SpecialRegisterLoads : Prop :=
  ∀ s : State,
    (Completes .ldIA [0xED, 0x47] s 9 { i := true } fun t => t.i = s.a) ∧
    (Completes .ldRegRA [0xED, 0x4F] s 9 { r := true } fun t => t.r = s.a) ∧
    (Completes .ldAI [0xED, 0x57] s 9 { regs := [.a], flags := true } fun t =>
      t.a = s.i ∧ flagsAre t s.i.msb (s.i == 0) false s.iff2 false s.f.c ∧ xyOf s t s.i) ∧
    (Completes .ldARegR [0xED, 0x5F] s 9 { regs := [.a], flags := true } fun t =>
      t.a = s.r ∧ flagsAre t s.r.msb (s.r == 0) false s.iff2 false s.f.c ∧ xyOf s t s.r)

/-- IN and OUT: the port is A:n or BC, the read or write is an event, and only IN r,(C) and IN (C) write flags. -/
def Obligations.InputAndOutput : Prop :=
  ∀ s : State,
    (∀ n, Completes (.inAMemN n) [0xDB, n] s 11 { regs := [.a], io := true } fun t =>
      t.a = s.portValue (joinBytes s.a n) ∧ t.io = s.io ++ [.input (joinBytes s.a n) t.a]) ∧
    (∀ n, Completes (.outMemNA n) [0xD3, n] s 11 { io := true } fun t => t.io = s.io ++ [.output (joinBytes s.a n) s.a]) ∧
    (∀ r, Completes (.inRMemC r) [0xED, opByte 1 r.code 0] s 12 { regs := [r], flags := true, io := true } fun t =>
      t.get8 r = s.portValue s.bc ∧ t.io = s.io ++ [.input s.bc (s.portValue s.bc)] ∧ byteEffect s (s.portValue s.bc) t) ∧
    (Completes .inMemC [0xED, 0x70] s 12 { flags := true, io := true } fun t =>
      t.io = s.io ++ [.input s.bc (s.portValue s.bc)] ∧ byteEffect s (s.portValue s.bc) t) ∧
    (∀ r, Completes (.outMemCR r) [0xED, opByte 1 r.code 1] s 12 { io := true } fun t =>
      t.io = s.io ++ [.output s.bc (s.get8 r)]) ∧
    (Completes .outMemC0 [0xED, 0x71] s 12 { io := true } fun t => t.io = s.io ++ [.output s.bc 0x00])

/-- Block input and output, one iteration: the port is BC before B is decremented for input, after it for output; S, H, PV, Y and X
are drawn; the repeating forms go back while B is not 0. -/
def Obligations.BlockIo : Prop :=
  (∀ s : State, s.params.memFault = false →
     Completes .ini [0xED, 0xA2] s 16 (inputTouch s) (inputEffect s 1) ∧
     Completes .ind [0xED, 0xAA] s 16 (inputTouch s) (inputEffect s (-1)) ∧
     (Completes .inir [0xED, 0xB2] s (if s.b - 1 != 0 then 21 else 16) { inputTouch s with pc := true } fun t =>
       inputEffect s 1 t ∧ repeats s (s.b - 1 != 0) t) ∧
     (Completes .indr [0xED, 0xBA] s (if s.b - 1 != 0 then 21 else 16) { inputTouch s with pc := true } fun t =>
       inputEffect s (-1) t ∧ repeats s (s.b - 1 != 0) t)) ∧
  ∀ s : State, s.params.memFault = false →
    Completes .outi [0xED, 0xA3] s 16 outputTouch (outputEffect s 1) ∧
    Completes .outd [0xED, 0xAB] s 16 outputTouch (outputEffect s (-1)) ∧
    (Completes .otir [0xED, 0xB3] s (if s.b - 1 != 0 then 21 else 16) { outputTouch with pc := true } fun t =>
      outputEffect s 1 t ∧ repeats s (s.b - 1 != 0) t) ∧
    (Completes .otdr [0xED, 0xBB] s (if s.b - 1 != 0 then 21 else 16) { outputTouch with pc := true } fun t =>
      outputEffect s (-1) t ∧ repeats s (s.b - 1 != 0) t)

/-! ### Interrupts and the host (60_exceptions.md, 70_reset_and_hazards.md) -/

/-- NMI acceptance, before any maskable interrupt: PC pushed, PC = 0x0066, IFF2 = the old IFF1, IFF1 = 0, halted cleared, the pending
bit cleared, 11 T-states; every other register and byte is kept. -/
def Obligations.NmiAcceptance : Prop :=
  ∀ (s : State) (wasHalted : Bool), s.params.memFault = false → s.nmiPending = true → s.intBlock ≠ .afterPrefix →
    ∃ t, interruptCheck wasHalted s = .next t ∧ t.halted = false ∧ t.iff2 = s.iff1 ∧ t.iff1 = false ∧ t.sp = s.sp - 2 ∧
      holdsWord t (s.sp - 2) s.pc ∧ t.pc = 0x0066 ∧ t.nmiPending = false ∧ addsCost s t (nmiCost s.params.costs) 11 ∧
      s.sameBut { sp := true, pc := true, iff1 := true, iff2 := true, halted := true, bytes := wordBytes (s.sp - 2) }
        { t with nmiPending := s.nmiPending }

/-- Maskable acceptance.  In modes 0, 1 and 2: halted and IFF1 cleared, IFF2 kept, PC pushed, PC from 0x0038 or from the word at
`(I << 8) | DEVICE_VECTOR` read after the push, the pending bit cleared, 13 or 19 T-states.  With IM outside 0 to 2: reported; halted,
IFF1 and the pending bit are cleared; nothing else changes and no cost. -/
def Obligations.MaskableAcceptance : Prop :=
  (∀ (s : State) (wasHalted : Bool), s.params.memFault = false → s.nmiPending = false → s.iff1 = true → s.intPending = true →
     s.intBlock ≠ .afterPrefix → ¬(s.intBlock = .afterEI ∧ s.params.eiDelay = true) → s.imLegal = true →
     ∃ t, interruptCheck wasHalted s = .next t ∧ t.halted = false ∧ t.iff1 = false ∧ t.sp = s.sp - 2 ∧
       holdsWord t (s.sp - 2) s.pc ∧ t.intPending = false ∧
       (s.im = 0 ∨ s.im = 1 → t.pc = 0x0038 ∧ addsCost s t (mode1Cost s.params.costs) 13) ∧
       (s.im = 2 → t.pc = t.peekWord (joinBytes s.i s.params.deviceVector) ∧ addsCost s t (mode2Cost s.params.costs) 19) ∧
       s.sameBut { sp := true, pc := true, iff1 := true, halted := true, bytes := wordBytes (s.sp - 2) }
         { t with intPending := s.intPending }) ∧
  ∀ (s : State) (wasHalted : Bool), s.nmiPending = false → s.iff1 = true → s.intPending = true → s.intBlock = .none → s.im = 3 →
    interruptCheck wasHalted s =
      .next { s with halted := false, iff1 := false, intPending := false, diag := s.diag ++ [.invalidInterruptMode 3] }

/-- The boundaries: after a lone DD or FD nothing is accepted, NMI included; after EI an NMI is, and with `EI_DELAY` no maskable interrupt
is, without it one is; with IFF1 = 0 or nothing pending none is.  The pending bits stay. -/
def Obligations.InterruptBoundaries : Prop :=
  (∀ s : State, s.intBlock = .afterPrefix → interruptCheck false s = .next s) ∧
  (∀ s : State, s.intBlock = .afterEI → s.params.eiDelay = true → s.nmiPending = false → interruptCheck false s = .next s) ∧
  (∀ s : State, s.intBlock = .afterEI → s.params.memFault = false → s.nmiPending = true →
    ∃ t, interruptCheck false s = .next t ∧ t.pc = 0x0066 ∧ t.nmiPending = false) ∧
  (∀ s : State, s.intBlock = .afterEI → s.params.eiDelay = false → s.params.memFault = false → s.nmiPending = false →
    s.iff1 = true → s.intPending = true → s.imLegal = true →
    ∃ t, interruptCheck false s = .next t ∧ t.intPending = false ∧ t.iff1 = false ∧ (s.im = 2 ∨ t.pc = 0x0038)) ∧
  (∀ s : State, s.nmiPending = false → (s.iff1 && s.intPending) = false → interruptCheck false s = .next s) ∧
  (∀ s : State, s.halted = false → s.params.memFault = false → s.params.eiDelay = true → s.nmiPending = false → s.peek s.pc = 0xFB →
    ∃ t, step s = .next t ∧ t.pc = s.pc + 1 ∧ t.iff1 = true ∧ t.intPending = s.intPending) ∧
  (∀ s : State, s.halted = false → s.params.memFault = false → s.peek s.pc = 0xDD → isIndexed (s.peek (s.pc + 1)) = false →
    ∃ t, step s = .next t ∧ t.pc = s.pc + 1 ∧ t.nmiPending = s.nmiPending ∧ t.intPending = s.intPending)

/-- An interrupt and its return: after an NMI or a maskable interrupt, RETN or RETI, with the stack and IFF2 as the acceptance left them,
restores PC, SP and IFF1. -/
def Obligations.InterruptRoundTrip : Prop :=
  ∀ s : State, s.params.memFault = false → s.iffLegal = true → s.imLegal = true → s.intBlock = .none →
    (s.nmiPending = true ∨ (s.iff1 = true ∧ s.intPending = true)) →
    ∃ t, interruptCheck false s = .next t ∧
      ∀ t' : State, t'.sp = t.sp → t'.mem = t.mem → t'.iff2 = t.iff2 → t'.params.memFault = false →
        ∀ i, (i = .retn ∨ i = .reti) → ∃ u, exec i t' = .next u ∧ u.pc = s.pc ∧ u.sp = s.sp ∧ u.iff1 = s.iff1

/-- What the host does between steps: reset gives every element its reset value and leaves memory and the traces; a loaded program is in
memory byte by byte, wrapping, and nothing else changes; the interrupt line and the NMI flag are written as said.  What a load does
under `MEM_FAULT = true` is in `HostChoices`. -/
def Obligations.HostActions : Prop :=
  ∀ s : State,
    (hasResetValues s.hostReset ∧ s.hostReset.mem = s.mem ∧ s.hostReset.io = s.io ∧ s.hostReset.diag = s.diag) ∧
    (s.params.memFault = false → ∀ (vs : List Byte) (a : Word), vs.length ≤ 65536 → isLoaded s (s.loadProgram vs a) vs a) ∧
    (∀ b, (s.setInterruptLine b) = { s with intPending := b } ∧ (s.setNmi b) = { s with nmiPending := b })

/-- The MODEL'S CHOICES about the host: its reset keeps the parameters and the index of the next free draw, fields of the model's own (log
entries 2 and 3), and its load and its memory write do not fail even under `MEM_FAULT = true`, where the spec does not say what a
failing write does (log entry 16). -/
def Obligations.HostChoices : Prop :=
  ∀ s : State,
    s.hostReset = { State.reset with mem := s.mem, io := s.io, diag := s.diag, params := s.params, draws := s.draws } ∧
    (∀ (vs : List Byte) (a : Word), vs.length ≤ 65536 → isLoaded s (s.loadProgram vs a) vs a) ∧
    ∀ (a : Word) (v : Byte), isLoaded s (s.hostWrite a v) [v] a
end

