-- ==== Sys2Proof/Laws/Exec.lean ====
section
/-! SUPPORT. The meaning each instruction dispatches to, one lemma per constructor, so that no proof unfolds the whole dispatch. -/

namespace Sys2Proof.Machine

@[simp] theorem exec_ldRrNn (rr : Pair) (nn : Word) (s : State) : exec (.ldRrNn rr nn) s = execLdRrNn rr nn s := rfl
@[simp] theorem exec_incRr (rr : Pair) (s : State) : exec (.incRr rr) s = execIncRr rr s := rfl
@[simp] theorem exec_decRr (rr : Pair) (s : State) : exec (.decRr rr) s = execDecRr rr s := rfl
@[simp] theorem exec_incR (r : Reg8) (s : State) : exec (.incR r) s = execIncR r s := rfl
@[simp] theorem exec_decR (r : Reg8) (s : State) : exec (.decR r) s = execDecR r s := rfl
@[simp] theorem exec_ldRN (r : Reg8) (n : Byte) (s : State) : exec (.ldRN r n) s = execLdRN r n s := rfl
@[simp] theorem exec_ldMemHlN (n : Byte) (s : State) : exec (.ldMemHlN n) s = execLdMemHlN n s := rfl
@[simp] theorem exec_addHlRr (rr : Pair) (s : State) : exec (.addHlRr rr) s = execAddHlRr rr s := rfl
@[simp] theorem exec_djnzE (e : Byte) (s : State) : exec (.djnzE e) s = execDjnzE e s := rfl
@[simp] theorem exec_jrE (e : Byte) (s : State) : exec (.jrE e) s = execJrE e s := rfl
@[simp] theorem exec_jrCcE (cc : Cond) (e : Byte) (s : State) : exec (.jrCcE cc e) s = execJrCcE cc e s := rfl
@[simp] theorem exec_ldMemNnHl (nn : Word) (s : State) : exec (.ldMemNnHl nn) s = execLdMemNnHl nn s := rfl
@[simp] theorem exec_ldHlMemNn (nn : Word) (s : State) : exec (.ldHlMemNn nn) s = execLdHlMemNn nn s := rfl
@[simp] theorem exec_ldMemNnA (nn : Word) (s : State) : exec (.ldMemNnA nn) s = execLdMemNnA nn s := rfl
@[simp] theorem exec_ldAMemNn (nn : Word) (s : State) : exec (.ldAMemNn nn) s = execLdAMemNn nn s := rfl
@[simp] theorem exec_ldRR (r : Reg8) (r' : Reg8) (s : State) : exec (.ldRR r r') s = execLdRR r r' s := rfl
@[simp] theorem exec_ldRMemHl (r : Reg8) (s : State) : exec (.ldRMemHl r) s = execLdRMemHl r s := rfl
@[simp] theorem exec_ldMemHlR (r : Reg8) (s : State) : exec (.ldMemHlR r) s = execLdMemHlR r s := rfl
@[simp] theorem exec_addAR (r : Reg8) (s : State) : exec (.addAR r) s = execAddAR r s := rfl
@[simp] theorem exec_addAN (n : Byte) (s : State) : exec (.addAN n) s = execAddAN n s := rfl
@[simp] theorem exec_adcAR (r : Reg8) (s : State) : exec (.adcAR r) s = execAdcAR r s := rfl
@[simp] theorem exec_adcAN (n : Byte) (s : State) : exec (.adcAN n) s = execAdcAN n s := rfl
@[simp] theorem exec_subR (r : Reg8) (s : State) : exec (.subR r) s = execSubR r s := rfl
@[simp] theorem exec_subN (n : Byte) (s : State) : exec (.subN n) s = execSubN n s := rfl
@[simp] theorem exec_sbcAR (r : Reg8) (s : State) : exec (.sbcAR r) s = execSbcAR r s := rfl
@[simp] theorem exec_sbcAN (n : Byte) (s : State) : exec (.sbcAN n) s = execSbcAN n s := rfl
@[simp] theorem exec_andR (r : Reg8) (s : State) : exec (.andR r) s = execAndR r s := rfl
@[simp] theorem exec_andN (n : Byte) (s : State) : exec (.andN n) s = execAndN n s := rfl
@[simp] theorem exec_xorR (r : Reg8) (s : State) : exec (.xorR r) s = execXorR r s := rfl
@[simp] theorem exec_xorN (n : Byte) (s : State) : exec (.xorN n) s = execXorN n s := rfl
@[simp] theorem exec_orR (r : Reg8) (s : State) : exec (.orR r) s = execOrR r s := rfl
@[simp] theorem exec_orN (n : Byte) (s : State) : exec (.orN n) s = execOrN n s := rfl
@[simp] theorem exec_cpR (r : Reg8) (s : State) : exec (.cpR r) s = execCpR r s := rfl
@[simp] theorem exec_cpN (n : Byte) (s : State) : exec (.cpN n) s = execCpN n s := rfl
@[simp] theorem exec_retCc (cc : Cond) (s : State) : exec (.retCc cc) s = execRetCc cc s := rfl
@[simp] theorem exec_popQq (qq : StackPair) (s : State) : exec (.popQq qq) s = execPopQq qq s := rfl
@[simp] theorem exec_jpCcNn (cc : Cond) (nn : Word) (s : State) : exec (.jpCcNn cc nn) s = execJpCcNn cc nn s := rfl
@[simp] theorem exec_jpNn (nn : Word) (s : State) : exec (.jpNn nn) s = execJpNn nn s := rfl
@[simp] theorem exec_callCcNn (cc : Cond) (nn : Word) (s : State) : exec (.callCcNn cc nn) s = execCallCcNn cc nn s := rfl
@[simp] theorem exec_pushQq (qq : StackPair) (s : State) : exec (.pushQq qq) s = execPushQq qq s := rfl
@[simp] theorem exec_rstP (y : BitVec 3) (s : State) : exec (.rstP y) s = execRstP y s := rfl
@[simp] theorem exec_callNn (nn : Word) (s : State) : exec (.callNn nn) s = execCallNn nn s := rfl
@[simp] theorem exec_outMemNA (n : Byte) (s : State) : exec (.outMemNA n) s = execOutMemNA n s := rfl
@[simp] theorem exec_inAMemN (n : Byte) (s : State) : exec (.inAMemN n) s = execInAMemN n s := rfl
@[simp] theorem exec_rlcR (r : Reg8) (s : State) : exec (.rlcR r) s = execRlcR r s := rfl
@[simp] theorem exec_rrcR (r : Reg8) (s : State) : exec (.rrcR r) s = execRrcR r s := rfl
@[simp] theorem exec_rlR (r : Reg8) (s : State) : exec (.rlR r) s = execRlR r s := rfl
@[simp] theorem exec_rrR (r : Reg8) (s : State) : exec (.rrR r) s = execRrR r s := rfl
@[simp] theorem exec_slaR (r : Reg8) (s : State) : exec (.slaR r) s = execSlaR r s := rfl
@[simp] theorem exec_sraR (r : Reg8) (s : State) : exec (.sraR r) s = execSraR r s := rfl
@[simp] theorem exec_sllR (r : Reg8) (s : State) : exec (.sllR r) s = execSllR r s := rfl
@[simp] theorem exec_srlR (r : Reg8) (s : State) : exec (.srlR r) s = execSrlR r s := rfl
@[simp] theorem exec_bitBR (n : BitVec 3) (r : Reg8) (s : State) : exec (.bitBR n r) s = execBitBR n r s := rfl
@[simp] theorem exec_bitBMemHl (n : BitVec 3) (s : State) : exec (.bitBMemHl n) s = execBitBMemHl n s := rfl
@[simp] theorem exec_resBR (n : BitVec 3) (r : Reg8) (s : State) : exec (.resBR n r) s = execResBR n r s := rfl
@[simp] theorem exec_resBMemHl (n : BitVec 3) (s : State) : exec (.resBMemHl n) s = execResBMemHl n s := rfl
@[simp] theorem exec_setBR (n : BitVec 3) (r : Reg8) (s : State) : exec (.setBR n r) s = execSetBR n r s := rfl
@[simp] theorem exec_setBMemHl (n : BitVec 3) (s : State) : exec (.setBMemHl n) s = execSetBMemHl n s := rfl
@[simp] theorem exec_inRMemC (r : Reg8) (s : State) : exec (.inRMemC r) s = execInRMemC r s := rfl
@[simp] theorem exec_outMemCR (r : Reg8) (s : State) : exec (.outMemCR r) s = execOutMemCR r s := rfl
@[simp] theorem exec_sbcHlRr (rr : Pair) (s : State) : exec (.sbcHlRr rr) s = execSbcHlRr rr s := rfl
@[simp] theorem exec_adcHlRr (rr : Pair) (s : State) : exec (.adcHlRr rr) s = execAdcHlRr rr s := rfl
@[simp] theorem exec_ldMemNnRr (rr : Pair) (nn : Word) (s : State) : exec (.ldMemNnRr rr nn) s = execLdMemNnRr rr nn s := rfl
@[simp] theorem exec_ldRrMemNn (rr : Pair) (nn : Word) (s : State) : exec (.ldRrMemNn rr nn) s = execLdRrMemNn rr nn s := rfl
@[simp] theorem exec_negDup (y : BitVec 3) (s : State) : exec (.negDup y) s = execNegDup y s := rfl
@[simp] theorem exec_retnDup (y : BitVec 3) (s : State) : exec (.retnDup y) s = execRetnDup y s := rfl
@[simp] theorem exec_im0Dup (y : BitVec 3) (s : State) : exec (.im0Dup y) s = execIm0Dup y s := rfl
@[simp] theorem exec_unmappedEd (op : Byte) (s : State) : exec (.unmappedEd op) s = execUnmappedEd op s := rfl
@[simp] theorem exec_addIiBc (ii : Idx) (s : State) : exec (.addIiBc ii) s = execAddIiBc ii s := rfl
@[simp] theorem exec_addIiDe (ii : Idx) (s : State) : exec (.addIiDe ii) s = execAddIiDe ii s := rfl
@[simp] theorem exec_addIiIi (ii : Idx) (s : State) : exec (.addIiIi ii) s = execAddIiIi ii s := rfl
@[simp] theorem exec_addIiSp (ii : Idx) (s : State) : exec (.addIiSp ii) s = execAddIiSp ii s := rfl
@[simp] theorem exec_ldIiNn (ii : Idx) (nn : Word) (s : State) : exec (.ldIiNn ii nn) s = execLdIiNn ii nn s := rfl
@[simp] theorem exec_ldMemNnIi (ii : Idx) (nn : Word) (s : State) : exec (.ldMemNnIi ii nn) s = execLdMemNnIi ii nn s := rfl
@[simp] theorem exec_incIi (ii : Idx) (s : State) : exec (.incIi ii) s = execIncIi ii s := rfl
@[simp] theorem exec_ldIiMemNn (ii : Idx) (nn : Word) (s : State) : exec (.ldIiMemNn ii nn) s = execLdIiMemNn ii nn s := rfl
@[simp] theorem exec_decIi (ii : Idx) (s : State) : exec (.decIi ii) s = execDecIi ii s := rfl
@[simp] theorem exec_incIih (ii : Idx) (s : State) : exec (.incIih ii) s = execIncIih ii s := rfl
@[simp] theorem exec_decIih (ii : Idx) (s : State) : exec (.decIih ii) s = execDecIih ii s := rfl
@[simp] theorem exec_ldIihN (ii : Idx) (n : Byte) (s : State) : exec (.ldIihN ii n) s = execLdIihN ii n s := rfl
@[simp] theorem exec_incIil (ii : Idx) (s : State) : exec (.incIil ii) s = execIncIil ii s := rfl
@[simp] theorem exec_decIil (ii : Idx) (s : State) : exec (.decIil ii) s = execDecIil ii s := rfl
@[simp] theorem exec_ldIilN (ii : Idx) (n : Byte) (s : State) : exec (.ldIilN ii n) s = execLdIilN ii n s := rfl
@[simp] theorem exec_incMemIid (ii : Idx) (d : Byte) (s : State) : exec (.incMemIid ii d) s = execIncMemIid ii d s := rfl
@[simp] theorem exec_decMemIid (ii : Idx) (d : Byte) (s : State) : exec (.decMemIid ii d) s = execDecMemIid ii d s := rfl
@[simp] theorem exec_ldMemIidN (ii : Idx) (d : Byte) (n : Byte) (s : State) : exec (.ldMemIidN ii d n) s = execLdMemIidN ii d n s := rfl
@[simp] theorem exec_ldBIih (ii : Idx) (s : State) : exec (.ldBIih ii) s = execLdBIih ii s := rfl
@[simp] theorem exec_ldBIil (ii : Idx) (s : State) : exec (.ldBIil ii) s = execLdBIil ii s := rfl
@[simp] theorem exec_ldBMemIid (ii : Idx) (d : Byte) (s : State) : exec (.ldBMemIid ii d) s = execLdBMemIid ii d s := rfl
@[simp] theorem exec_ldCIih (ii : Idx) (s : State) : exec (.ldCIih ii) s = execLdCIih ii s := rfl
@[simp] theorem exec_ldCIil (ii : Idx) (s : State) : exec (.ldCIil ii) s = execLdCIil ii s := rfl
@[simp] theorem exec_ldCMemIid (ii : Idx) (d : Byte) (s : State) : exec (.ldCMemIid ii d) s = execLdCMemIid ii d s := rfl
@[simp] theorem exec_ldDIih (ii : Idx) (s : State) : exec (.ldDIih ii) s = execLdDIih ii s := rfl
@[simp] theorem exec_ldDIil (ii : Idx) (s : State) : exec (.ldDIil ii) s = execLdDIil ii s := rfl
@[simp] theorem exec_ldDMemIid (ii : Idx) (d : Byte) (s : State) : exec (.ldDMemIid ii d) s = execLdDMemIid ii d s := rfl
@[simp] theorem exec_ldEIih (ii : Idx) (s : State) : exec (.ldEIih ii) s = execLdEIih ii s := rfl
@[simp] theorem exec_ldEIil (ii : Idx) (s : State) : exec (.ldEIil ii) s = execLdEIil ii s := rfl
@[simp] theorem exec_ldEMemIid (ii : Idx) (d : Byte) (s : State) : exec (.ldEMemIid ii d) s = execLdEMemIid ii d s := rfl
@[simp] theorem exec_ldIihB (ii : Idx) (s : State) : exec (.ldIihB ii) s = execLdIihB ii s := rfl
@[simp] theorem exec_ldIihC (ii : Idx) (s : State) : exec (.ldIihC ii) s = execLdIihC ii s := rfl
@[simp] theorem exec_ldIihD (ii : Idx) (s : State) : exec (.ldIihD ii) s = execLdIihD ii s := rfl
@[simp] theorem exec_ldIihE (ii : Idx) (s : State) : exec (.ldIihE ii) s = execLdIihE ii s := rfl
@[simp] theorem exec_ldIihIih (ii : Idx) (s : State) : exec (.ldIihIih ii) s = execLdIihIih ii s := rfl
@[simp] theorem exec_ldIihIil (ii : Idx) (s : State) : exec (.ldIihIil ii) s = execLdIihIil ii s := rfl
@[simp] theorem exec_ldHMemIid (ii : Idx) (d : Byte) (s : State) : exec (.ldHMemIid ii d) s = execLdHMemIid ii d s := rfl
@[simp] theorem exec_ldIihA (ii : Idx) (s : State) : exec (.ldIihA ii) s = execLdIihA ii s := rfl
@[simp] theorem exec_ldIilB (ii : Idx) (s : State) : exec (.ldIilB ii) s = execLdIilB ii s := rfl
@[simp] theorem exec_ldIilC (ii : Idx) (s : State) : exec (.ldIilC ii) s = execLdIilC ii s := rfl
@[simp] theorem exec_ldIilD (ii : Idx) (s : State) : exec (.ldIilD ii) s = execLdIilD ii s := rfl
@[simp] theorem exec_ldIilE (ii : Idx) (s : State) : exec (.ldIilE ii) s = execLdIilE ii s := rfl
@[simp] theorem exec_ldIilIih (ii : Idx) (s : State) : exec (.ldIilIih ii) s = execLdIilIih ii s := rfl
@[simp] theorem exec_ldIilIil (ii : Idx) (s : State) : exec (.ldIilIil ii) s = execLdIilIil ii s := rfl
@[simp] theorem exec_ldLMemIid (ii : Idx) (d : Byte) (s : State) : exec (.ldLMemIid ii d) s = execLdLMemIid ii d s := rfl
@[simp] theorem exec_ldIilA (ii : Idx) (s : State) : exec (.ldIilA ii) s = execLdIilA ii s := rfl
@[simp] theorem exec_ldMemIidB (ii : Idx) (d : Byte) (s : State) : exec (.ldMemIidB ii d) s = execLdMemIidB ii d s := rfl
@[simp] theorem exec_ldMemIidC (ii : Idx) (d : Byte) (s : State) : exec (.ldMemIidC ii d) s = execLdMemIidC ii d s := rfl
@[simp] theorem exec_ldMemIidD (ii : Idx) (d : Byte) (s : State) : exec (.ldMemIidD ii d) s = execLdMemIidD ii d s := rfl
@[simp] theorem exec_ldMemIidE (ii : Idx) (d : Byte) (s : State) : exec (.ldMemIidE ii d) s = execLdMemIidE ii d s := rfl
@[simp] theorem exec_ldMemIidH (ii : Idx) (d : Byte) (s : State) : exec (.ldMemIidH ii d) s = execLdMemIidH ii d s := rfl
@[simp] theorem exec_ldMemIidL (ii : Idx) (d : Byte) (s : State) : exec (.ldMemIidL ii d) s = execLdMemIidL ii d s := rfl
@[simp] theorem exec_ldMemIidA (ii : Idx) (d : Byte) (s : State) : exec (.ldMemIidA ii d) s = execLdMemIidA ii d s := rfl
@[simp] theorem exec_ldAIih (ii : Idx) (s : State) : exec (.ldAIih ii) s = execLdAIih ii s := rfl
@[simp] theorem exec_ldAIil (ii : Idx) (s : State) : exec (.ldAIil ii) s = execLdAIil ii s := rfl
@[simp] theorem exec_ldAMemIid (ii : Idx) (d : Byte) (s : State) : exec (.ldAMemIid ii d) s = execLdAMemIid ii d s := rfl
@[simp] theorem exec_addAIih (ii : Idx) (s : State) : exec (.addAIih ii) s = execAddAIih ii s := rfl
@[simp] theorem exec_addAIil (ii : Idx) (s : State) : exec (.addAIil ii) s = execAddAIil ii s := rfl
@[simp] theorem exec_addAMemIid (ii : Idx) (d : Byte) (s : State) : exec (.addAMemIid ii d) s = execAddAMemIid ii d s := rfl
@[simp] theorem exec_adcAIih (ii : Idx) (s : State) : exec (.adcAIih ii) s = execAdcAIih ii s := rfl
@[simp] theorem exec_adcAIil (ii : Idx) (s : State) : exec (.adcAIil ii) s = execAdcAIil ii s := rfl
@[simp] theorem exec_adcAMemIid (ii : Idx) (d : Byte) (s : State) : exec (.adcAMemIid ii d) s = execAdcAMemIid ii d s := rfl
@[simp] theorem exec_subIih (ii : Idx) (s : State) : exec (.subIih ii) s = execSubIih ii s := rfl
@[simp] theorem exec_subIil (ii : Idx) (s : State) : exec (.subIil ii) s = execSubIil ii s := rfl
@[simp] theorem exec_subMemIid (ii : Idx) (d : Byte) (s : State) : exec (.subMemIid ii d) s = execSubMemIid ii d s := rfl
@[simp] theorem exec_sbcAIih (ii : Idx) (s : State) : exec (.sbcAIih ii) s = execSbcAIih ii s := rfl
@[simp] theorem exec_sbcAIil (ii : Idx) (s : State) : exec (.sbcAIil ii) s = execSbcAIil ii s := rfl
@[simp] theorem exec_sbcAMemIid (ii : Idx) (d : Byte) (s : State) : exec (.sbcAMemIid ii d) s = execSbcAMemIid ii d s := rfl
@[simp] theorem exec_andIih (ii : Idx) (s : State) : exec (.andIih ii) s = execAndIih ii s := rfl
@[simp] theorem exec_andIil (ii : Idx) (s : State) : exec (.andIil ii) s = execAndIil ii s := rfl
@[simp] theorem exec_andMemIid (ii : Idx) (d : Byte) (s : State) : exec (.andMemIid ii d) s = execAndMemIid ii d s := rfl
@[simp] theorem exec_xorIih (ii : Idx) (s : State) : exec (.xorIih ii) s = execXorIih ii s := rfl
@[simp] theorem exec_xorIil (ii : Idx) (s : State) : exec (.xorIil ii) s = execXorIil ii s := rfl
@[simp] theorem exec_xorMemIid (ii : Idx) (d : Byte) (s : State) : exec (.xorMemIid ii d) s = execXorMemIid ii d s := rfl
@[simp] theorem exec_orIih (ii : Idx) (s : State) : exec (.orIih ii) s = execOrIih ii s := rfl
@[simp] theorem exec_orIil (ii : Idx) (s : State) : exec (.orIil ii) s = execOrIil ii s := rfl
@[simp] theorem exec_orMemIid (ii : Idx) (d : Byte) (s : State) : exec (.orMemIid ii d) s = execOrMemIid ii d s := rfl
@[simp] theorem exec_cpIih (ii : Idx) (s : State) : exec (.cpIih ii) s = execCpIih ii s := rfl
@[simp] theorem exec_cpIil (ii : Idx) (s : State) : exec (.cpIil ii) s = execCpIil ii s := rfl
@[simp] theorem exec_cpMemIid (ii : Idx) (d : Byte) (s : State) : exec (.cpMemIid ii d) s = execCpMemIid ii d s := rfl
@[simp] theorem exec_popIi (ii : Idx) (s : State) : exec (.popIi ii) s = execPopIi ii s := rfl
@[simp] theorem exec_exMemSpIi (ii : Idx) (s : State) : exec (.exMemSpIi ii) s = execExMemSpIi ii s := rfl
@[simp] theorem exec_pushIi (ii : Idx) (s : State) : exec (.pushIi ii) s = execPushIi ii s := rfl
@[simp] theorem exec_jpIi (ii : Idx) (s : State) : exec (.jpIi ii) s = execJpIi ii s := rfl
@[simp] theorem exec_ldSpIi (ii : Idx) (s : State) : exec (.ldSpIi ii) s = execLdSpIi ii s := rfl
@[simp] theorem exec_lonePrefix (ii : Idx) (s : State) : exec (.lonePrefix ii) s = execLonePrefix ii s := rfl
@[simp] theorem exec_rlcMemIid (ii : Idx) (d : Byte) (s : State) : exec (.rlcMemIid ii d) s = execRlcMemIid ii d s := rfl
@[simp] theorem exec_rlcMemIidR (ii : Idx) (d : Byte) (r : Reg8) (s : State) : exec (.rlcMemIidR ii d r) s = execRlcMemIidR ii d r s := rfl
@[simp] theorem exec_rrcMemIid (ii : Idx) (d : Byte) (s : State) : exec (.rrcMemIid ii d) s = execRrcMemIid ii d s := rfl
@[simp] theorem exec_rrcMemIidR (ii : Idx) (d : Byte) (r : Reg8) (s : State) : exec (.rrcMemIidR ii d r) s = execRrcMemIidR ii d r s := rfl
@[simp] theorem exec_rlMemIid (ii : Idx) (d : Byte) (s : State) : exec (.rlMemIid ii d) s = execRlMemIid ii d s := rfl
@[simp] theorem exec_rlMemIidR (ii : Idx) (d : Byte) (r : Reg8) (s : State) : exec (.rlMemIidR ii d r) s = execRlMemIidR ii d r s := rfl
@[simp] theorem exec_rrMemIid (ii : Idx) (d : Byte) (s : State) : exec (.rrMemIid ii d) s = execRrMemIid ii d s := rfl
@[simp] theorem exec_rrMemIidR (ii : Idx) (d : Byte) (r : Reg8) (s : State) : exec (.rrMemIidR ii d r) s = execRrMemIidR ii d r s := rfl
@[simp] theorem exec_slaMemIid (ii : Idx) (d : Byte) (s : State) : exec (.slaMemIid ii d) s = execSlaMemIid ii d s := rfl
@[simp] theorem exec_slaMemIidR (ii : Idx) (d : Byte) (r : Reg8) (s : State) : exec (.slaMemIidR ii d r) s = execSlaMemIidR ii d r s := rfl
@[simp] theorem exec_sraMemIid (ii : Idx) (d : Byte) (s : State) : exec (.sraMemIid ii d) s = execSraMemIid ii d s := rfl
@[simp] theorem exec_sraMemIidR (ii : Idx) (d : Byte) (r : Reg8) (s : State) : exec (.sraMemIidR ii d r) s = execSraMemIidR ii d r s := rfl
@[simp] theorem exec_sllMemIid (ii : Idx) (d : Byte) (s : State) : exec (.sllMemIid ii d) s = execSllMemIid ii d s := rfl
@[simp] theorem exec_sllMemIidR (ii : Idx) (d : Byte) (r : Reg8) (s : State) : exec (.sllMemIidR ii d r) s = execSllMemIidR ii d r s := rfl
@[simp] theorem exec_srlMemIid (ii : Idx) (d : Byte) (s : State) : exec (.srlMemIid ii d) s = execSrlMemIid ii d s := rfl
@[simp] theorem exec_srlMemIidR (ii : Idx) (d : Byte) (r : Reg8) (s : State) : exec (.srlMemIidR ii d r) s = execSrlMemIidR ii d r s := rfl
@[simp] theorem exec_bitBMemIid (ii : Idx) (d : Byte) (n : BitVec 3) (z : BitVec 3) (s : State) : exec (.bitBMemIid ii d n z) s = execBitBMemIid ii d n z s := rfl
@[simp] theorem exec_resBMemIid (ii : Idx) (d : Byte) (n : BitVec 3) (s : State) : exec (.resBMemIid ii d n) s = execResBMemIid ii d n s := rfl
@[simp] theorem exec_resBMemIidR (ii : Idx) (d : Byte) (n : BitVec 3) (r : Reg8) (s : State) : exec (.resBMemIidR ii d n r) s = execResBMemIidR ii d n r s := rfl
@[simp] theorem exec_setBMemIid (ii : Idx) (d : Byte) (n : BitVec 3) (s : State) : exec (.setBMemIid ii d n) s = execSetBMemIid ii d n s := rfl
@[simp] theorem exec_setBMemIidR (ii : Idx) (d : Byte) (n : BitVec 3) (r : Reg8) (s : State) : exec (.setBMemIidR ii d n r) s = execSetBMemIidR ii d n r s := rfl
@[simp] theorem exec_nop (s : State) : exec .nop s = execNop s := rfl
@[simp] theorem exec_ldMemBcA (s : State) : exec .ldMemBcA s = execLdMemBcA s := rfl
@[simp] theorem exec_ldMemDeA (s : State) : exec .ldMemDeA s = execLdMemDeA s := rfl
@[simp] theorem exec_incMemHl (s : State) : exec .incMemHl s = execIncMemHl s := rfl
@[simp] theorem exec_decMemHl (s : State) : exec .decMemHl s = execDecMemHl s := rfl
@[simp] theorem exec_rlca (s : State) : exec .rlca s = execRlca s := rfl
@[simp] theorem exec_rrca (s : State) : exec .rrca s = execRrca s := rfl
@[simp] theorem exec_rla (s : State) : exec .rla s = execRla s := rfl
@[simp] theorem exec_rra (s : State) : exec .rra s = execRra s := rfl
@[simp] theorem exec_exAfAf (s : State) : exec .exAfAf s = execExAfAf s := rfl
@[simp] theorem exec_ldAMemBc (s : State) : exec .ldAMemBc s = execLdAMemBc s := rfl
@[simp] theorem exec_ldAMemDe (s : State) : exec .ldAMemDe s = execLdAMemDe s := rfl
@[simp] theorem exec_daa (s : State) : exec .daa s = execDaa s := rfl
@[simp] theorem exec_cpl (s : State) : exec .cpl s = execCpl s := rfl
@[simp] theorem exec_scf (s : State) : exec .scf s = execScf s := rfl
@[simp] theorem exec_ccf (s : State) : exec .ccf s = execCcf s := rfl
@[simp] theorem exec_halt (s : State) : exec .halt s = execHalt s := rfl
@[simp] theorem exec_addAMemHl (s : State) : exec .addAMemHl s = execAddAMemHl s := rfl
@[simp] theorem exec_adcAMemHl (s : State) : exec .adcAMemHl s = execAdcAMemHl s := rfl
@[simp] theorem exec_subMemHl (s : State) : exec .subMemHl s = execSubMemHl s := rfl
@[simp] theorem exec_sbcAMemHl (s : State) : exec .sbcAMemHl s = execSbcAMemHl s := rfl
@[simp] theorem exec_andMemHl (s : State) : exec .andMemHl s = execAndMemHl s := rfl
@[simp] theorem exec_xorMemHl (s : State) : exec .xorMemHl s = execXorMemHl s := rfl
@[simp] theorem exec_orMemHl (s : State) : exec .orMemHl s = execOrMemHl s := rfl
@[simp] theorem exec_cpMemHl (s : State) : exec .cpMemHl s = execCpMemHl s := rfl
@[simp] theorem exec_popAf (s : State) : exec .popAf s = execPopAf s := rfl
@[simp] theorem exec_ret (s : State) : exec .ret s = execRet s := rfl
@[simp] theorem exec_exx (s : State) : exec .exx s = execExx s := rfl
@[simp] theorem exec_exMemSpHl (s : State) : exec .exMemSpHl s = execExMemSpHl s := rfl
@[simp] theorem exec_jpHl (s : State) : exec .jpHl s = execJpHl s := rfl
@[simp] theorem exec_exDeHl (s : State) : exec .exDeHl s = execExDeHl s := rfl
@[simp] theorem exec_di (s : State) : exec .di s = execDi s := rfl
@[simp] theorem exec_ldSpHl (s : State) : exec .ldSpHl s = execLdSpHl s := rfl
@[simp] theorem exec_ei (s : State) : exec .ei s = execEi s := rfl
@[simp] theorem exec_rlcMemHl (s : State) : exec .rlcMemHl s = execRlcMemHl s := rfl
@[simp] theorem exec_rrcMemHl (s : State) : exec .rrcMemHl s = execRrcMemHl s := rfl
@[simp] theorem exec_rlMemHl (s : State) : exec .rlMemHl s = execRlMemHl s := rfl
@[simp] theorem exec_rrMemHl (s : State) : exec .rrMemHl s = execRrMemHl s := rfl
@[simp] theorem exec_slaMemHl (s : State) : exec .slaMemHl s = execSlaMemHl s := rfl
@[simp] theorem exec_sraMemHl (s : State) : exec .sraMemHl s = execSraMemHl s := rfl
@[simp] theorem exec_sllMemHl (s : State) : exec .sllMemHl s = execSllMemHl s := rfl
@[simp] theorem exec_srlMemHl (s : State) : exec .srlMemHl s = execSrlMemHl s := rfl
@[simp] theorem exec_inMemC (s : State) : exec .inMemC s = execInMemC s := rfl
@[simp] theorem exec_outMemC0 (s : State) : exec .outMemC0 s = execOutMemC0 s := rfl
@[simp] theorem exec_neg (s : State) : exec .neg s = execNeg s := rfl
@[simp] theorem exec_retn (s : State) : exec .retn s = execRetn s := rfl
@[simp] theorem exec_reti (s : State) : exec .reti s = execReti s := rfl
@[simp] theorem exec_im0 (s : State) : exec .im0 s = execIm0 s := rfl
@[simp] theorem exec_im1 (s : State) : exec .im1 s = execIm1 s := rfl
@[simp] theorem exec_im1Dup (s : State) : exec .im1Dup s = execIm1Dup s := rfl
@[simp] theorem exec_im2 (s : State) : exec .im2 s = execIm2 s := rfl
@[simp] theorem exec_im2Dup (s : State) : exec .im2Dup s = execIm2Dup s := rfl
@[simp] theorem exec_ldIA (s : State) : exec .ldIA s = execLdIA s := rfl
@[simp] theorem exec_ldRegRA (s : State) : exec .ldRegRA s = execLdRegRA s := rfl
@[simp] theorem exec_ldAI (s : State) : exec .ldAI s = execLdAI s := rfl
@[simp] theorem exec_ldARegR (s : State) : exec .ldARegR s = execLdARegR s := rfl
@[simp] theorem exec_rrd (s : State) : exec .rrd s = execRrd s := rfl
@[simp] theorem exec_rld (s : State) : exec .rld s = execRld s := rfl
@[simp] theorem exec_ldi (s : State) : exec .ldi s = execLdi s := rfl
@[simp] theorem exec_ldd (s : State) : exec .ldd s = execLdd s := rfl
@[simp] theorem exec_ldir (s : State) : exec .ldir s = execLdir s := rfl
@[simp] theorem exec_lddr (s : State) : exec .lddr s = execLddr s := rfl
@[simp] theorem exec_cpi (s : State) : exec .cpi s = execCpi s := rfl
@[simp] theorem exec_cpd (s : State) : exec .cpd s = execCpd s := rfl
@[simp] theorem exec_cpir (s : State) : exec .cpir s = execCpir s := rfl
@[simp] theorem exec_cpdr (s : State) : exec .cpdr s = execCpdr s := rfl
@[simp] theorem exec_ini (s : State) : exec .ini s = execIni s := rfl
@[simp] theorem exec_ind (s : State) : exec .ind s = execInd s := rfl
@[simp] theorem exec_inir (s : State) : exec .inir s = execInir s := rfl
@[simp] theorem exec_indr (s : State) : exec .indr s = execIndr s := rfl
@[simp] theorem exec_outi (s : State) : exec .outi s = execOuti s := rfl
@[simp] theorem exec_outd (s : State) : exec .outd s = execOutd s := rfl
@[simp] theorem exec_otir (s : State) : exec .otir s = execOtir s := rfl
@[simp] theorem exec_otdr (s : State) : exec .otdr s = execOtdr s := rfl

end Sys2Proof.Machine
end

