-- ==== Sys2Proof/Laws/Flags.lean ====
section
/-! SUPPORT. F as a byte and as its eight bits are the same thing (spec/10_state.md R25). -/

namespace Sys2Proof.Machine

/-- `setFlagsByte(x); getFlagsByte() == x` for all 256 byte values (R25). -/
@[simp] theorem Flags.toByte_ofByte (v : Byte) : (Flags.ofByte v).toByte = v := by
  revert v
  decide

/-- The eight flags survive packing. -/
@[simp] theorem Flags.ofByte_toByte (f : Flags) : Flags.ofByte f.toByte = f := by
  obtain ⟨s, z, y, h, x, pv, n, c⟩ := f
  cases s <;> cases z <;> cases y <;> cases h <;> cases x <;> cases pv <;> cases n <;> cases c <;> rfl

end Sys2Proof.Machine
end

