-- ==== Sys2Proof/Laws/State.lean ====
section
/-! SUPPORT. One lemma per field per update of State, and what each update writes. -/

namespace Sys2Proof.Machine

/-! ### set8 -/

@[simp] theorem State.set8_f (s : State) (r : Reg8) (v : Byte) : (s.set8 r v).f = s.f := by cases r <;> rfl
@[simp] theorem State.set8_aAlt (s : State) (r : Reg8) (v : Byte) : (s.set8 r v).aAlt = s.aAlt := by cases r <;> rfl
@[simp] theorem State.set8_fAlt (s : State) (r : Reg8) (v : Byte) : (s.set8 r v).fAlt = s.fAlt := by cases r <;> rfl
@[simp] theorem State.set8_bAlt (s : State) (r : Reg8) (v : Byte) : (s.set8 r v).bAlt = s.bAlt := by cases r <;> rfl
@[simp] theorem State.set8_cAlt (s : State) (r : Reg8) (v : Byte) : (s.set8 r v).cAlt = s.cAlt := by cases r <;> rfl
@[simp] theorem State.set8_dAlt (s : State) (r : Reg8) (v : Byte) : (s.set8 r v).dAlt = s.dAlt := by cases r <;> rfl
@[simp] theorem State.set8_eAlt (s : State) (r : Reg8) (v : Byte) : (s.set8 r v).eAlt = s.eAlt := by cases r <;> rfl
@[simp] theorem State.set8_hAlt (s : State) (r : Reg8) (v : Byte) : (s.set8 r v).hAlt = s.hAlt := by cases r <;> rfl
@[simp] theorem State.set8_lAlt (s : State) (r : Reg8) (v : Byte) : (s.set8 r v).lAlt = s.lAlt := by cases r <;> rfl
@[simp] theorem State.set8_ix (s : State) (r : Reg8) (v : Byte) : (s.set8 r v).ix = s.ix := by cases r <;> rfl
@[simp] theorem State.set8_iy (s : State) (r : Reg8) (v : Byte) : (s.set8 r v).iy = s.iy := by cases r <;> rfl
@[simp] theorem State.set8_sp (s : State) (r : Reg8) (v : Byte) : (s.set8 r v).sp = s.sp := by cases r <;> rfl
@[simp] theorem State.set8_pc (s : State) (r : Reg8) (v : Byte) : (s.set8 r v).pc = s.pc := by cases r <;> rfl
@[simp] theorem State.set8_i (s : State) (r : Reg8) (v : Byte) : (s.set8 r v).i = s.i := by cases r <;> rfl
@[simp] theorem State.set8_r (s : State) (r : Reg8) (v : Byte) : (s.set8 r v).r = s.r := by cases r <;> rfl
@[simp] theorem State.set8_iff1 (s : State) (r : Reg8) (v : Byte) : (s.set8 r v).iff1 = s.iff1 := by cases r <;> rfl
@[simp] theorem State.set8_iff2 (s : State) (r : Reg8) (v : Byte) : (s.set8 r v).iff2 = s.iff2 := by cases r <;> rfl
@[simp] theorem State.set8_im (s : State) (r : Reg8) (v : Byte) : (s.set8 r v).im = s.im := by cases r <;> rfl
@[simp] theorem State.set8_halted (s : State) (r : Reg8) (v : Byte) : (s.set8 r v).halted = s.halted := by cases r <;> rfl
@[simp] theorem State.set8_cycles (s : State) (r : Reg8) (v : Byte) : (s.set8 r v).cycles = s.cycles := by cases r <;> rfl
@[simp] theorem State.set8_intPending (s : State) (r : Reg8) (v : Byte) : (s.set8 r v).intPending = s.intPending := by cases r <;> rfl
@[simp] theorem State.set8_nmiPending (s : State) (r : Reg8) (v : Byte) : (s.set8 r v).nmiPending = s.nmiPending := by cases r <;> rfl
@[simp] theorem State.set8_intBlock (s : State) (r : Reg8) (v : Byte) : (s.set8 r v).intBlock = s.intBlock := by cases r <;> rfl
@[simp] theorem State.set8_mem (s : State) (r : Reg8) (v : Byte) : (s.set8 r v).mem = s.mem := by cases r <;> rfl
@[simp] theorem State.set8_io (s : State) (r : Reg8) (v : Byte) : (s.set8 r v).io = s.io := by cases r <;> rfl
@[simp] theorem State.set8_diag (s : State) (r : Reg8) (v : Byte) : (s.set8 r v).diag = s.diag := by cases r <;> rfl
@[simp] theorem State.set8_params (s : State) (r : Reg8) (v : Byte) : (s.set8 r v).params = s.params := by cases r <;> rfl
@[simp] theorem State.set8_draws (s : State) (r : Reg8) (v : Byte) : (s.set8 r v).draws = s.draws := by cases r <;> rfl
@[simp] theorem State.set8_idx (s : State) (r : Reg8) (v : Byte) (x : Idx) : (s.set8 r v).idx x = s.idx x := by cases r <;> cases x <;> rfl
@[simp] theorem State.set8_ea (s : State) (r : Reg8) (v : Byte) (x : Idx) (k : Byte) : (s.set8 r v).ea x k = s.ea x k := by cases r <;> cases x <;> rfl
@[simp] theorem State.set8_cond (s : State) (r : Reg8) (v : Byte) (x : Cond) : (s.set8 r v).cond x = s.cond x := by cases r <;> cases x <;> rfl
@[simp] theorem State.set8_peek (s : State) (r : Reg8) (v : Byte) (x : Word) : (s.set8 r v).peek x = s.peek x := by cases r <;> rfl
@[simp] theorem State.set8_portValue (s : State) (r : Reg8) (v : Byte) (x : Word) : (s.set8 r v).portValue x = s.portValue x := by cases r <;> rfl

/-! ### set16 -/

@[simp] theorem State.set16_a (s : State) (p : Pair) (v : Word) : (s.set16 p v).a = s.a := by cases p <;> rfl
@[simp] theorem State.set16_f (s : State) (p : Pair) (v : Word) : (s.set16 p v).f = s.f := by cases p <;> rfl
@[simp] theorem State.set16_aAlt (s : State) (p : Pair) (v : Word) : (s.set16 p v).aAlt = s.aAlt := by cases p <;> rfl
@[simp] theorem State.set16_fAlt (s : State) (p : Pair) (v : Word) : (s.set16 p v).fAlt = s.fAlt := by cases p <;> rfl
@[simp] theorem State.set16_bAlt (s : State) (p : Pair) (v : Word) : (s.set16 p v).bAlt = s.bAlt := by cases p <;> rfl
@[simp] theorem State.set16_cAlt (s : State) (p : Pair) (v : Word) : (s.set16 p v).cAlt = s.cAlt := by cases p <;> rfl
@[simp] theorem State.set16_dAlt (s : State) (p : Pair) (v : Word) : (s.set16 p v).dAlt = s.dAlt := by cases p <;> rfl
@[simp] theorem State.set16_eAlt (s : State) (p : Pair) (v : Word) : (s.set16 p v).eAlt = s.eAlt := by cases p <;> rfl
@[simp] theorem State.set16_hAlt (s : State) (p : Pair) (v : Word) : (s.set16 p v).hAlt = s.hAlt := by cases p <;> rfl
@[simp] theorem State.set16_lAlt (s : State) (p : Pair) (v : Word) : (s.set16 p v).lAlt = s.lAlt := by cases p <;> rfl
@[simp] theorem State.set16_ix (s : State) (p : Pair) (v : Word) : (s.set16 p v).ix = s.ix := by cases p <;> rfl
@[simp] theorem State.set16_iy (s : State) (p : Pair) (v : Word) : (s.set16 p v).iy = s.iy := by cases p <;> rfl
@[simp] theorem State.set16_pc (s : State) (p : Pair) (v : Word) : (s.set16 p v).pc = s.pc := by cases p <;> rfl
@[simp] theorem State.set16_i (s : State) (p : Pair) (v : Word) : (s.set16 p v).i = s.i := by cases p <;> rfl
@[simp] theorem State.set16_r (s : State) (p : Pair) (v : Word) : (s.set16 p v).r = s.r := by cases p <;> rfl
@[simp] theorem State.set16_iff1 (s : State) (p : Pair) (v : Word) : (s.set16 p v).iff1 = s.iff1 := by cases p <;> rfl
@[simp] theorem State.set16_iff2 (s : State) (p : Pair) (v : Word) : (s.set16 p v).iff2 = s.iff2 := by cases p <;> rfl
@[simp] theorem State.set16_im (s : State) (p : Pair) (v : Word) : (s.set16 p v).im = s.im := by cases p <;> rfl
@[simp] theorem State.set16_halted (s : State) (p : Pair) (v : Word) : (s.set16 p v).halted = s.halted := by cases p <;> rfl
@[simp] theorem State.set16_cycles (s : State) (p : Pair) (v : Word) : (s.set16 p v).cycles = s.cycles := by cases p <;> rfl
@[simp] theorem State.set16_intPending (s : State) (p : Pair) (v : Word) : (s.set16 p v).intPending = s.intPending := by cases p <;> rfl
@[simp] theorem State.set16_nmiPending (s : State) (p : Pair) (v : Word) : (s.set16 p v).nmiPending = s.nmiPending := by cases p <;> rfl
@[simp] theorem State.set16_intBlock (s : State) (p : Pair) (v : Word) : (s.set16 p v).intBlock = s.intBlock := by cases p <;> rfl
@[simp] theorem State.set16_mem (s : State) (p : Pair) (v : Word) : (s.set16 p v).mem = s.mem := by cases p <;> rfl
@[simp] theorem State.set16_io (s : State) (p : Pair) (v : Word) : (s.set16 p v).io = s.io := by cases p <;> rfl
@[simp] theorem State.set16_diag (s : State) (p : Pair) (v : Word) : (s.set16 p v).diag = s.diag := by cases p <;> rfl
@[simp] theorem State.set16_params (s : State) (p : Pair) (v : Word) : (s.set16 p v).params = s.params := by cases p <;> rfl
@[simp] theorem State.set16_draws (s : State) (p : Pair) (v : Word) : (s.set16 p v).draws = s.draws := by cases p <;> rfl
@[simp] theorem State.set16_idx (s : State) (p : Pair) (v : Word) (x : Idx) : (s.set16 p v).idx x = s.idx x := by cases p <;> cases x <;> rfl
@[simp] theorem State.set16_ea (s : State) (p : Pair) (v : Word) (x : Idx) (k : Byte) : (s.set16 p v).ea x k = s.ea x k := by cases p <;> cases x <;> rfl
@[simp] theorem State.set16_cond (s : State) (p : Pair) (v : Word) (x : Cond) : (s.set16 p v).cond x = s.cond x := by cases p <;> cases x <;> rfl
@[simp] theorem State.set16_peek (s : State) (p : Pair) (v : Word) (x : Word) : (s.set16 p v).peek x = s.peek x := by cases p <;> rfl
@[simp] theorem State.set16_portValue (s : State) (p : Pair) (v : Word) (x : Word) : (s.set16 p v).portValue x = s.portValue x := by cases p <;> rfl

/-! ### setQQ -/

@[simp] theorem State.setQQ_aAlt (s : State) (q : StackPair) (v : Word) : (s.setQQ q v).aAlt = s.aAlt := by cases q <;> rfl
@[simp] theorem State.setQQ_fAlt (s : State) (q : StackPair) (v : Word) : (s.setQQ q v).fAlt = s.fAlt := by cases q <;> rfl
@[simp] theorem State.setQQ_bAlt (s : State) (q : StackPair) (v : Word) : (s.setQQ q v).bAlt = s.bAlt := by cases q <;> rfl
@[simp] theorem State.setQQ_cAlt (s : State) (q : StackPair) (v : Word) : (s.setQQ q v).cAlt = s.cAlt := by cases q <;> rfl
@[simp] theorem State.setQQ_dAlt (s : State) (q : StackPair) (v : Word) : (s.setQQ q v).dAlt = s.dAlt := by cases q <;> rfl
@[simp] theorem State.setQQ_eAlt (s : State) (q : StackPair) (v : Word) : (s.setQQ q v).eAlt = s.eAlt := by cases q <;> rfl
@[simp] theorem State.setQQ_hAlt (s : State) (q : StackPair) (v : Word) : (s.setQQ q v).hAlt = s.hAlt := by cases q <;> rfl
@[simp] theorem State.setQQ_lAlt (s : State) (q : StackPair) (v : Word) : (s.setQQ q v).lAlt = s.lAlt := by cases q <;> rfl
@[simp] theorem State.setQQ_ix (s : State) (q : StackPair) (v : Word) : (s.setQQ q v).ix = s.ix := by cases q <;> rfl
@[simp] theorem State.setQQ_iy (s : State) (q : StackPair) (v : Word) : (s.setQQ q v).iy = s.iy := by cases q <;> rfl
@[simp] theorem State.setQQ_sp (s : State) (q : StackPair) (v : Word) : (s.setQQ q v).sp = s.sp := by cases q <;> rfl
@[simp] theorem State.setQQ_pc (s : State) (q : StackPair) (v : Word) : (s.setQQ q v).pc = s.pc := by cases q <;> rfl
@[simp] theorem State.setQQ_i (s : State) (q : StackPair) (v : Word) : (s.setQQ q v).i = s.i := by cases q <;> rfl
@[simp] theorem State.setQQ_r (s : State) (q : StackPair) (v : Word) : (s.setQQ q v).r = s.r := by cases q <;> rfl
@[simp] theorem State.setQQ_iff1 (s : State) (q : StackPair) (v : Word) : (s.setQQ q v).iff1 = s.iff1 := by cases q <;> rfl
@[simp] theorem State.setQQ_iff2 (s : State) (q : StackPair) (v : Word) : (s.setQQ q v).iff2 = s.iff2 := by cases q <;> rfl
@[simp] theorem State.setQQ_im (s : State) (q : StackPair) (v : Word) : (s.setQQ q v).im = s.im := by cases q <;> rfl
@[simp] theorem State.setQQ_halted (s : State) (q : StackPair) (v : Word) : (s.setQQ q v).halted = s.halted := by cases q <;> rfl
@[simp] theorem State.setQQ_cycles (s : State) (q : StackPair) (v : Word) : (s.setQQ q v).cycles = s.cycles := by cases q <;> rfl
@[simp] theorem State.setQQ_intPending (s : State) (q : StackPair) (v : Word) : (s.setQQ q v).intPending = s.intPending := by cases q <;> rfl
@[simp] theorem State.setQQ_nmiPending (s : State) (q : StackPair) (v : Word) : (s.setQQ q v).nmiPending = s.nmiPending := by cases q <;> rfl
@[simp] theorem State.setQQ_intBlock (s : State) (q : StackPair) (v : Word) : (s.setQQ q v).intBlock = s.intBlock := by cases q <;> rfl
@[simp] theorem State.setQQ_mem (s : State) (q : StackPair) (v : Word) : (s.setQQ q v).mem = s.mem := by cases q <;> rfl
@[simp] theorem State.setQQ_io (s : State) (q : StackPair) (v : Word) : (s.setQQ q v).io = s.io := by cases q <;> rfl
@[simp] theorem State.setQQ_diag (s : State) (q : StackPair) (v : Word) : (s.setQQ q v).diag = s.diag := by cases q <;> rfl
@[simp] theorem State.setQQ_params (s : State) (q : StackPair) (v : Word) : (s.setQQ q v).params = s.params := by cases q <;> rfl
@[simp] theorem State.setQQ_draws (s : State) (q : StackPair) (v : Word) : (s.setQQ q v).draws = s.draws := by cases q <;> rfl
@[simp] theorem State.setQQ_idx (s : State) (q : StackPair) (v : Word) (x : Idx) : (s.setQQ q v).idx x = s.idx x := by cases q <;> cases x <;> rfl
@[simp] theorem State.setQQ_ea (s : State) (q : StackPair) (v : Word) (x : Idx) (k : Byte) : (s.setQQ q v).ea x k = s.ea x k := by cases q <;> cases x <;> rfl
@[simp] theorem State.setQQ_peek (s : State) (q : StackPair) (v : Word) (x : Word) : (s.setQQ q v).peek x = s.peek x := by cases q <;> rfl
@[simp] theorem State.setQQ_portValue (s : State) (q : StackPair) (v : Word) (x : Word) : (s.setQQ q v).portValue x = s.portValue x := by cases q <;> rfl

/-! ### setIdx -/

@[simp] theorem State.setIdx_a (s : State) (ii : Idx) (v : Word) : (s.setIdx ii v).a = s.a := by cases ii <;> rfl
@[simp] theorem State.setIdx_f (s : State) (ii : Idx) (v : Word) : (s.setIdx ii v).f = s.f := by cases ii <;> rfl
@[simp] theorem State.setIdx_b (s : State) (ii : Idx) (v : Word) : (s.setIdx ii v).b = s.b := by cases ii <;> rfl
@[simp] theorem State.setIdx_c (s : State) (ii : Idx) (v : Word) : (s.setIdx ii v).c = s.c := by cases ii <;> rfl
@[simp] theorem State.setIdx_d (s : State) (ii : Idx) (v : Word) : (s.setIdx ii v).d = s.d := by cases ii <;> rfl
@[simp] theorem State.setIdx_e (s : State) (ii : Idx) (v : Word) : (s.setIdx ii v).e = s.e := by cases ii <;> rfl
@[simp] theorem State.setIdx_h (s : State) (ii : Idx) (v : Word) : (s.setIdx ii v).h = s.h := by cases ii <;> rfl
@[simp] theorem State.setIdx_l (s : State) (ii : Idx) (v : Word) : (s.setIdx ii v).l = s.l := by cases ii <;> rfl
@[simp] theorem State.setIdx_aAlt (s : State) (ii : Idx) (v : Word) : (s.setIdx ii v).aAlt = s.aAlt := by cases ii <;> rfl
@[simp] theorem State.setIdx_fAlt (s : State) (ii : Idx) (v : Word) : (s.setIdx ii v).fAlt = s.fAlt := by cases ii <;> rfl
@[simp] theorem State.setIdx_bAlt (s : State) (ii : Idx) (v : Word) : (s.setIdx ii v).bAlt = s.bAlt := by cases ii <;> rfl
@[simp] theorem State.setIdx_cAlt (s : State) (ii : Idx) (v : Word) : (s.setIdx ii v).cAlt = s.cAlt := by cases ii <;> rfl
@[simp] theorem State.setIdx_dAlt (s : State) (ii : Idx) (v : Word) : (s.setIdx ii v).dAlt = s.dAlt := by cases ii <;> rfl
@[simp] theorem State.setIdx_eAlt (s : State) (ii : Idx) (v : Word) : (s.setIdx ii v).eAlt = s.eAlt := by cases ii <;> rfl
@[simp] theorem State.setIdx_hAlt (s : State) (ii : Idx) (v : Word) : (s.setIdx ii v).hAlt = s.hAlt := by cases ii <;> rfl
@[simp] theorem State.setIdx_lAlt (s : State) (ii : Idx) (v : Word) : (s.setIdx ii v).lAlt = s.lAlt := by cases ii <;> rfl
@[simp] theorem State.setIdx_sp (s : State) (ii : Idx) (v : Word) : (s.setIdx ii v).sp = s.sp := by cases ii <;> rfl
@[simp] theorem State.setIdx_pc (s : State) (ii : Idx) (v : Word) : (s.setIdx ii v).pc = s.pc := by cases ii <;> rfl
@[simp] theorem State.setIdx_i (s : State) (ii : Idx) (v : Word) : (s.setIdx ii v).i = s.i := by cases ii <;> rfl
@[simp] theorem State.setIdx_r (s : State) (ii : Idx) (v : Word) : (s.setIdx ii v).r = s.r := by cases ii <;> rfl
@[simp] theorem State.setIdx_iff1 (s : State) (ii : Idx) (v : Word) : (s.setIdx ii v).iff1 = s.iff1 := by cases ii <;> rfl
@[simp] theorem State.setIdx_iff2 (s : State) (ii : Idx) (v : Word) : (s.setIdx ii v).iff2 = s.iff2 := by cases ii <;> rfl
@[simp] theorem State.setIdx_im (s : State) (ii : Idx) (v : Word) : (s.setIdx ii v).im = s.im := by cases ii <;> rfl
@[simp] theorem State.setIdx_halted (s : State) (ii : Idx) (v : Word) : (s.setIdx ii v).halted = s.halted := by cases ii <;> rfl
@[simp] theorem State.setIdx_cycles (s : State) (ii : Idx) (v : Word) : (s.setIdx ii v).cycles = s.cycles := by cases ii <;> rfl
@[simp] theorem State.setIdx_intPending (s : State) (ii : Idx) (v : Word) : (s.setIdx ii v).intPending = s.intPending := by cases ii <;> rfl
@[simp] theorem State.setIdx_nmiPending (s : State) (ii : Idx) (v : Word) : (s.setIdx ii v).nmiPending = s.nmiPending := by cases ii <;> rfl
@[simp] theorem State.setIdx_intBlock (s : State) (ii : Idx) (v : Word) : (s.setIdx ii v).intBlock = s.intBlock := by cases ii <;> rfl
@[simp] theorem State.setIdx_mem (s : State) (ii : Idx) (v : Word) : (s.setIdx ii v).mem = s.mem := by cases ii <;> rfl
@[simp] theorem State.setIdx_io (s : State) (ii : Idx) (v : Word) : (s.setIdx ii v).io = s.io := by cases ii <;> rfl
@[simp] theorem State.setIdx_diag (s : State) (ii : Idx) (v : Word) : (s.setIdx ii v).diag = s.diag := by cases ii <;> rfl
@[simp] theorem State.setIdx_params (s : State) (ii : Idx) (v : Word) : (s.setIdx ii v).params = s.params := by cases ii <;> rfl
@[simp] theorem State.setIdx_draws (s : State) (ii : Idx) (v : Word) : (s.setIdx ii v).draws = s.draws := by cases ii <;> rfl
@[simp] theorem State.setIdx_get8 (s : State) (ii : Idx) (v : Word) (x : Reg8) : (s.setIdx ii v).get8 x = s.get8 x := by cases ii <;> cases x <;> rfl
@[simp] theorem State.setIdx_get16 (s : State) (ii : Idx) (v : Word) (x : Pair) : (s.setIdx ii v).get16 x = s.get16 x := by cases ii <;> cases x <;> rfl
@[simp] theorem State.setIdx_bc (s : State) (ii : Idx) (v : Word) : (s.setIdx ii v).bc = s.bc := by cases ii <;> rfl
@[simp] theorem State.setIdx_de (s : State) (ii : Idx) (v : Word) : (s.setIdx ii v).de = s.de := by cases ii <;> rfl
@[simp] theorem State.setIdx_hl (s : State) (ii : Idx) (v : Word) : (s.setIdx ii v).hl = s.hl := by cases ii <;> rfl
@[simp] theorem State.setIdx_cond (s : State) (ii : Idx) (v : Word) (x : Cond) : (s.setIdx ii v).cond x = s.cond x := by cases ii <;> cases x <;> rfl
@[simp] theorem State.setIdx_peek (s : State) (ii : Idx) (v : Word) (x : Word) : (s.setIdx ii v).peek x = s.peek x := by cases ii <;> rfl
@[simp] theorem State.setIdx_portValue (s : State) (ii : Idx) (v : Word) (x : Word) : (s.setIdx ii v).portValue x = s.portValue x := by cases ii <;> rfl

/-! ### setIdxHi -/

@[simp] theorem State.setIdxHi_a (s : State) (ii : Idx) (v : Byte) : (s.setIdxHi ii v).a = s.a := by cases ii <;> rfl
@[simp] theorem State.setIdxHi_f (s : State) (ii : Idx) (v : Byte) : (s.setIdxHi ii v).f = s.f := by cases ii <;> rfl
@[simp] theorem State.setIdxHi_b (s : State) (ii : Idx) (v : Byte) : (s.setIdxHi ii v).b = s.b := by cases ii <;> rfl
@[simp] theorem State.setIdxHi_c (s : State) (ii : Idx) (v : Byte) : (s.setIdxHi ii v).c = s.c := by cases ii <;> rfl
@[simp] theorem State.setIdxHi_d (s : State) (ii : Idx) (v : Byte) : (s.setIdxHi ii v).d = s.d := by cases ii <;> rfl
@[simp] theorem State.setIdxHi_e (s : State) (ii : Idx) (v : Byte) : (s.setIdxHi ii v).e = s.e := by cases ii <;> rfl
@[simp] theorem State.setIdxHi_h (s : State) (ii : Idx) (v : Byte) : (s.setIdxHi ii v).h = s.h := by cases ii <;> rfl
@[simp] theorem State.setIdxHi_l (s : State) (ii : Idx) (v : Byte) : (s.setIdxHi ii v).l = s.l := by cases ii <;> rfl
@[simp] theorem State.setIdxHi_aAlt (s : State) (ii : Idx) (v : Byte) : (s.setIdxHi ii v).aAlt = s.aAlt := by cases ii <;> rfl
@[simp] theorem State.setIdxHi_fAlt (s : State) (ii : Idx) (v : Byte) : (s.setIdxHi ii v).fAlt = s.fAlt := by cases ii <;> rfl
@[simp] theorem State.setIdxHi_bAlt (s : State) (ii : Idx) (v : Byte) : (s.setIdxHi ii v).bAlt = s.bAlt := by cases ii <;> rfl
@[simp] theorem State.setIdxHi_cAlt (s : State) (ii : Idx) (v : Byte) : (s.setIdxHi ii v).cAlt = s.cAlt := by cases ii <;> rfl
@[simp] theorem State.setIdxHi_dAlt (s : State) (ii : Idx) (v : Byte) : (s.setIdxHi ii v).dAlt = s.dAlt := by cases ii <;> rfl
@[simp] theorem State.setIdxHi_eAlt (s : State) (ii : Idx) (v : Byte) : (s.setIdxHi ii v).eAlt = s.eAlt := by cases ii <;> rfl
@[simp] theorem State.setIdxHi_hAlt (s : State) (ii : Idx) (v : Byte) : (s.setIdxHi ii v).hAlt = s.hAlt := by cases ii <;> rfl
@[simp] theorem State.setIdxHi_lAlt (s : State) (ii : Idx) (v : Byte) : (s.setIdxHi ii v).lAlt = s.lAlt := by cases ii <;> rfl
@[simp] theorem State.setIdxHi_sp (s : State) (ii : Idx) (v : Byte) : (s.setIdxHi ii v).sp = s.sp := by cases ii <;> rfl
@[simp] theorem State.setIdxHi_pc (s : State) (ii : Idx) (v : Byte) : (s.setIdxHi ii v).pc = s.pc := by cases ii <;> rfl
@[simp] theorem State.setIdxHi_i (s : State) (ii : Idx) (v : Byte) : (s.setIdxHi ii v).i = s.i := by cases ii <;> rfl
@[simp] theorem State.setIdxHi_r (s : State) (ii : Idx) (v : Byte) : (s.setIdxHi ii v).r = s.r := by cases ii <;> rfl
@[simp] theorem State.setIdxHi_iff1 (s : State) (ii : Idx) (v : Byte) : (s.setIdxHi ii v).iff1 = s.iff1 := by cases ii <;> rfl
@[simp] theorem State.setIdxHi_iff2 (s : State) (ii : Idx) (v : Byte) : (s.setIdxHi ii v).iff2 = s.iff2 := by cases ii <;> rfl
@[simp] theorem State.setIdxHi_im (s : State) (ii : Idx) (v : Byte) : (s.setIdxHi ii v).im = s.im := by cases ii <;> rfl
@[simp] theorem State.setIdxHi_halted (s : State) (ii : Idx) (v : Byte) : (s.setIdxHi ii v).halted = s.halted := by cases ii <;> rfl
@[simp] theorem State.setIdxHi_cycles (s : State) (ii : Idx) (v : Byte) : (s.setIdxHi ii v).cycles = s.cycles := by cases ii <;> rfl
@[simp] theorem State.setIdxHi_intPending (s : State) (ii : Idx) (v : Byte) : (s.setIdxHi ii v).intPending = s.intPending := by cases ii <;> rfl
@[simp] theorem State.setIdxHi_nmiPending (s : State) (ii : Idx) (v : Byte) : (s.setIdxHi ii v).nmiPending = s.nmiPending := by cases ii <;> rfl
@[simp] theorem State.setIdxHi_intBlock (s : State) (ii : Idx) (v : Byte) : (s.setIdxHi ii v).intBlock = s.intBlock := by cases ii <;> rfl
@[simp] theorem State.setIdxHi_mem (s : State) (ii : Idx) (v : Byte) : (s.setIdxHi ii v).mem = s.mem := by cases ii <;> rfl
@[simp] theorem State.setIdxHi_io (s : State) (ii : Idx) (v : Byte) : (s.setIdxHi ii v).io = s.io := by cases ii <;> rfl
@[simp] theorem State.setIdxHi_diag (s : State) (ii : Idx) (v : Byte) : (s.setIdxHi ii v).diag = s.diag := by cases ii <;> rfl
@[simp] theorem State.setIdxHi_params (s : State) (ii : Idx) (v : Byte) : (s.setIdxHi ii v).params = s.params := by cases ii <;> rfl
@[simp] theorem State.setIdxHi_draws (s : State) (ii : Idx) (v : Byte) : (s.setIdxHi ii v).draws = s.draws := by cases ii <;> rfl
@[simp] theorem State.setIdxHi_get8 (s : State) (ii : Idx) (v : Byte) (x : Reg8) : (s.setIdxHi ii v).get8 x = s.get8 x := by cases ii <;> cases x <;> rfl
@[simp] theorem State.setIdxHi_get16 (s : State) (ii : Idx) (v : Byte) (x : Pair) : (s.setIdxHi ii v).get16 x = s.get16 x := by cases ii <;> cases x <;> rfl
@[simp] theorem State.setIdxHi_bc (s : State) (ii : Idx) (v : Byte) : (s.setIdxHi ii v).bc = s.bc := by cases ii <;> rfl
@[simp] theorem State.setIdxHi_de (s : State) (ii : Idx) (v : Byte) : (s.setIdxHi ii v).de = s.de := by cases ii <;> rfl
@[simp] theorem State.setIdxHi_hl (s : State) (ii : Idx) (v : Byte) : (s.setIdxHi ii v).hl = s.hl := by cases ii <;> rfl
@[simp] theorem State.setIdxHi_cond (s : State) (ii : Idx) (v : Byte) (x : Cond) : (s.setIdxHi ii v).cond x = s.cond x := by cases ii <;> cases x <;> rfl
@[simp] theorem State.setIdxHi_peek (s : State) (ii : Idx) (v : Byte) (x : Word) : (s.setIdxHi ii v).peek x = s.peek x := by cases ii <;> rfl
@[simp] theorem State.setIdxHi_portValue (s : State) (ii : Idx) (v : Byte) (x : Word) : (s.setIdxHi ii v).portValue x = s.portValue x := by cases ii <;> rfl

/-! ### setIdxLo -/

@[simp] theorem State.setIdxLo_a (s : State) (ii : Idx) (v : Byte) : (s.setIdxLo ii v).a = s.a := by cases ii <;> rfl
@[simp] theorem State.setIdxLo_f (s : State) (ii : Idx) (v : Byte) : (s.setIdxLo ii v).f = s.f := by cases ii <;> rfl
@[simp] theorem State.setIdxLo_b (s : State) (ii : Idx) (v : Byte) : (s.setIdxLo ii v).b = s.b := by cases ii <;> rfl
@[simp] theorem State.setIdxLo_c (s : State) (ii : Idx) (v : Byte) : (s.setIdxLo ii v).c = s.c := by cases ii <;> rfl
@[simp] theorem State.setIdxLo_d (s : State) (ii : Idx) (v : Byte) : (s.setIdxLo ii v).d = s.d := by cases ii <;> rfl
@[simp] theorem State.setIdxLo_e (s : State) (ii : Idx) (v : Byte) : (s.setIdxLo ii v).e = s.e := by cases ii <;> rfl
@[simp] theorem State.setIdxLo_h (s : State) (ii : Idx) (v : Byte) : (s.setIdxLo ii v).h = s.h := by cases ii <;> rfl
@[simp] theorem State.setIdxLo_l (s : State) (ii : Idx) (v : Byte) : (s.setIdxLo ii v).l = s.l := by cases ii <;> rfl
@[simp] theorem State.setIdxLo_aAlt (s : State) (ii : Idx) (v : Byte) : (s.setIdxLo ii v).aAlt = s.aAlt := by cases ii <;> rfl
@[simp] theorem State.setIdxLo_fAlt (s : State) (ii : Idx) (v : Byte) : (s.setIdxLo ii v).fAlt = s.fAlt := by cases ii <;> rfl
@[simp] theorem State.setIdxLo_bAlt (s : State) (ii : Idx) (v : Byte) : (s.setIdxLo ii v).bAlt = s.bAlt := by cases ii <;> rfl
@[simp] theorem State.setIdxLo_cAlt (s : State) (ii : Idx) (v : Byte) : (s.setIdxLo ii v).cAlt = s.cAlt := by cases ii <;> rfl
@[simp] theorem State.setIdxLo_dAlt (s : State) (ii : Idx) (v : Byte) : (s.setIdxLo ii v).dAlt = s.dAlt := by cases ii <;> rfl
@[simp] theorem State.setIdxLo_eAlt (s : State) (ii : Idx) (v : Byte) : (s.setIdxLo ii v).eAlt = s.eAlt := by cases ii <;> rfl
@[simp] theorem State.setIdxLo_hAlt (s : State) (ii : Idx) (v : Byte) : (s.setIdxLo ii v).hAlt = s.hAlt := by cases ii <;> rfl
@[simp] theorem State.setIdxLo_lAlt (s : State) (ii : Idx) (v : Byte) : (s.setIdxLo ii v).lAlt = s.lAlt := by cases ii <;> rfl
@[simp] theorem State.setIdxLo_sp (s : State) (ii : Idx) (v : Byte) : (s.setIdxLo ii v).sp = s.sp := by cases ii <;> rfl
@[simp] theorem State.setIdxLo_pc (s : State) (ii : Idx) (v : Byte) : (s.setIdxLo ii v).pc = s.pc := by cases ii <;> rfl
@[simp] theorem State.setIdxLo_i (s : State) (ii : Idx) (v : Byte) : (s.setIdxLo ii v).i = s.i := by cases ii <;> rfl
@[simp] theorem State.setIdxLo_r (s : State) (ii : Idx) (v : Byte) : (s.setIdxLo ii v).r = s.r := by cases ii <;> rfl
@[simp] theorem State.setIdxLo_iff1 (s : State) (ii : Idx) (v : Byte) : (s.setIdxLo ii v).iff1 = s.iff1 := by cases ii <;> rfl
@[simp] theorem State.setIdxLo_iff2 (s : State) (ii : Idx) (v : Byte) : (s.setIdxLo ii v).iff2 = s.iff2 := by cases ii <;> rfl
@[simp] theorem State.setIdxLo_im (s : State) (ii : Idx) (v : Byte) : (s.setIdxLo ii v).im = s.im := by cases ii <;> rfl
@[simp] theorem State.setIdxLo_halted (s : State) (ii : Idx) (v : Byte) : (s.setIdxLo ii v).halted = s.halted := by cases ii <;> rfl
@[simp] theorem State.setIdxLo_cycles (s : State) (ii : Idx) (v : Byte) : (s.setIdxLo ii v).cycles = s.cycles := by cases ii <;> rfl
@[simp] theorem State.setIdxLo_intPending (s : State) (ii : Idx) (v : Byte) : (s.setIdxLo ii v).intPending = s.intPending := by cases ii <;> rfl
@[simp] theorem State.setIdxLo_nmiPending (s : State) (ii : Idx) (v : Byte) : (s.setIdxLo ii v).nmiPending = s.nmiPending := by cases ii <;> rfl
@[simp] theorem State.setIdxLo_intBlock (s : State) (ii : Idx) (v : Byte) : (s.setIdxLo ii v).intBlock = s.intBlock := by cases ii <;> rfl
@[simp] theorem State.setIdxLo_mem (s : State) (ii : Idx) (v : Byte) : (s.setIdxLo ii v).mem = s.mem := by cases ii <;> rfl
@[simp] theorem State.setIdxLo_io (s : State) (ii : Idx) (v : Byte) : (s.setIdxLo ii v).io = s.io := by cases ii <;> rfl
@[simp] theorem State.setIdxLo_diag (s : State) (ii : Idx) (v : Byte) : (s.setIdxLo ii v).diag = s.diag := by cases ii <;> rfl
@[simp] theorem State.setIdxLo_params (s : State) (ii : Idx) (v : Byte) : (s.setIdxLo ii v).params = s.params := by cases ii <;> rfl
@[simp] theorem State.setIdxLo_draws (s : State) (ii : Idx) (v : Byte) : (s.setIdxLo ii v).draws = s.draws := by cases ii <;> rfl
@[simp] theorem State.setIdxLo_get8 (s : State) (ii : Idx) (v : Byte) (x : Reg8) : (s.setIdxLo ii v).get8 x = s.get8 x := by cases ii <;> cases x <;> rfl
@[simp] theorem State.setIdxLo_get16 (s : State) (ii : Idx) (v : Byte) (x : Pair) : (s.setIdxLo ii v).get16 x = s.get16 x := by cases ii <;> cases x <;> rfl
@[simp] theorem State.setIdxLo_bc (s : State) (ii : Idx) (v : Byte) : (s.setIdxLo ii v).bc = s.bc := by cases ii <;> rfl
@[simp] theorem State.setIdxLo_de (s : State) (ii : Idx) (v : Byte) : (s.setIdxLo ii v).de = s.de := by cases ii <;> rfl
@[simp] theorem State.setIdxLo_hl (s : State) (ii : Idx) (v : Byte) : (s.setIdxLo ii v).hl = s.hl := by cases ii <;> rfl
@[simp] theorem State.setIdxLo_cond (s : State) (ii : Idx) (v : Byte) (x : Cond) : (s.setIdxLo ii v).cond x = s.cond x := by cases ii <;> cases x <;> rfl
@[simp] theorem State.setIdxLo_peek (s : State) (ii : Idx) (v : Byte) (x : Word) : (s.setIdxLo ii v).peek x = s.peek x := by cases ii <;> rfl
@[simp] theorem State.setIdxLo_portValue (s : State) (ii : Idx) (v : Byte) (x : Word) : (s.setIdxLo ii v).portValue x = s.portValue x := by cases ii <;> rfl

/-! ### jump -/

@[simp] theorem State.jump_a (s : State) (w : Word) : (s.jump w).a = s.a := rfl
@[simp] theorem State.jump_f (s : State) (w : Word) : (s.jump w).f = s.f := rfl
@[simp] theorem State.jump_b (s : State) (w : Word) : (s.jump w).b = s.b := rfl
@[simp] theorem State.jump_c (s : State) (w : Word) : (s.jump w).c = s.c := rfl
@[simp] theorem State.jump_d (s : State) (w : Word) : (s.jump w).d = s.d := rfl
@[simp] theorem State.jump_e (s : State) (w : Word) : (s.jump w).e = s.e := rfl
@[simp] theorem State.jump_h (s : State) (w : Word) : (s.jump w).h = s.h := rfl
@[simp] theorem State.jump_l (s : State) (w : Word) : (s.jump w).l = s.l := rfl
@[simp] theorem State.jump_aAlt (s : State) (w : Word) : (s.jump w).aAlt = s.aAlt := rfl
@[simp] theorem State.jump_fAlt (s : State) (w : Word) : (s.jump w).fAlt = s.fAlt := rfl
@[simp] theorem State.jump_bAlt (s : State) (w : Word) : (s.jump w).bAlt = s.bAlt := rfl
@[simp] theorem State.jump_cAlt (s : State) (w : Word) : (s.jump w).cAlt = s.cAlt := rfl
@[simp] theorem State.jump_dAlt (s : State) (w : Word) : (s.jump w).dAlt = s.dAlt := rfl
@[simp] theorem State.jump_eAlt (s : State) (w : Word) : (s.jump w).eAlt = s.eAlt := rfl
@[simp] theorem State.jump_hAlt (s : State) (w : Word) : (s.jump w).hAlt = s.hAlt := rfl
@[simp] theorem State.jump_lAlt (s : State) (w : Word) : (s.jump w).lAlt = s.lAlt := rfl
@[simp] theorem State.jump_ix (s : State) (w : Word) : (s.jump w).ix = s.ix := rfl
@[simp] theorem State.jump_iy (s : State) (w : Word) : (s.jump w).iy = s.iy := rfl
@[simp] theorem State.jump_sp (s : State) (w : Word) : (s.jump w).sp = s.sp := rfl
@[simp] theorem State.jump_i (s : State) (w : Word) : (s.jump w).i = s.i := rfl
@[simp] theorem State.jump_r (s : State) (w : Word) : (s.jump w).r = s.r := rfl
@[simp] theorem State.jump_iff1 (s : State) (w : Word) : (s.jump w).iff1 = s.iff1 := rfl
@[simp] theorem State.jump_iff2 (s : State) (w : Word) : (s.jump w).iff2 = s.iff2 := rfl
@[simp] theorem State.jump_im (s : State) (w : Word) : (s.jump w).im = s.im := rfl
@[simp] theorem State.jump_halted (s : State) (w : Word) : (s.jump w).halted = s.halted := rfl
@[simp] theorem State.jump_cycles (s : State) (w : Word) : (s.jump w).cycles = s.cycles := rfl
@[simp] theorem State.jump_intPending (s : State) (w : Word) : (s.jump w).intPending = s.intPending := rfl
@[simp] theorem State.jump_nmiPending (s : State) (w : Word) : (s.jump w).nmiPending = s.nmiPending := rfl
@[simp] theorem State.jump_intBlock (s : State) (w : Word) : (s.jump w).intBlock = s.intBlock := rfl
@[simp] theorem State.jump_mem (s : State) (w : Word) : (s.jump w).mem = s.mem := rfl
@[simp] theorem State.jump_io (s : State) (w : Word) : (s.jump w).io = s.io := rfl
@[simp] theorem State.jump_diag (s : State) (w : Word) : (s.jump w).diag = s.diag := rfl
@[simp] theorem State.jump_params (s : State) (w : Word) : (s.jump w).params = s.params := rfl
@[simp] theorem State.jump_draws (s : State) (w : Word) : (s.jump w).draws = s.draws := rfl
@[simp] theorem State.jump_get8 (s : State) (w : Word) (x : Reg8) : (s.jump w).get8 x = s.get8 x := by cases x <;> rfl
@[simp] theorem State.jump_idx (s : State) (w : Word) (x : Idx) : (s.jump w).idx x = s.idx x := by cases x <;> rfl
@[simp] theorem State.jump_ea (s : State) (w : Word) (x : Idx) (k : Byte) : (s.jump w).ea x k = s.ea x k := by cases x <;> rfl
@[simp] theorem State.jump_get16 (s : State) (w : Word) (x : Pair) : (s.jump w).get16 x = s.get16 x := by cases x <;> rfl
@[simp] theorem State.jump_bc (s : State) (w : Word) : (s.jump w).bc = s.bc := rfl
@[simp] theorem State.jump_de (s : State) (w : Word) : (s.jump w).de = s.de := rfl
@[simp] theorem State.jump_hl (s : State) (w : Word) : (s.jump w).hl = s.hl := rfl
@[simp] theorem State.jump_cond (s : State) (w : Word) (x : Cond) : (s.jump w).cond x = s.cond x := by cases x <;> rfl
@[simp] theorem State.jump_peek (s : State) (w : Word) (x : Word) : (s.jump w).peek x = s.peek x := rfl
@[simp] theorem State.jump_portValue (s : State) (w : Word) (x : Word) : (s.jump w).portValue x = s.portValue x := rfl

/-! ### jumpRel -/

@[simp] theorem State.jumpRel_a (s : State) (v : Byte) : (s.jumpRel v).a = s.a := rfl
@[simp] theorem State.jumpRel_f (s : State) (v : Byte) : (s.jumpRel v).f = s.f := rfl
@[simp] theorem State.jumpRel_b (s : State) (v : Byte) : (s.jumpRel v).b = s.b := rfl
@[simp] theorem State.jumpRel_c (s : State) (v : Byte) : (s.jumpRel v).c = s.c := rfl
@[simp] theorem State.jumpRel_d (s : State) (v : Byte) : (s.jumpRel v).d = s.d := rfl
@[simp] theorem State.jumpRel_e (s : State) (v : Byte) : (s.jumpRel v).e = s.e := rfl
@[simp] theorem State.jumpRel_h (s : State) (v : Byte) : (s.jumpRel v).h = s.h := rfl
@[simp] theorem State.jumpRel_l (s : State) (v : Byte) : (s.jumpRel v).l = s.l := rfl
@[simp] theorem State.jumpRel_aAlt (s : State) (v : Byte) : (s.jumpRel v).aAlt = s.aAlt := rfl
@[simp] theorem State.jumpRel_fAlt (s : State) (v : Byte) : (s.jumpRel v).fAlt = s.fAlt := rfl
@[simp] theorem State.jumpRel_bAlt (s : State) (v : Byte) : (s.jumpRel v).bAlt = s.bAlt := rfl
@[simp] theorem State.jumpRel_cAlt (s : State) (v : Byte) : (s.jumpRel v).cAlt = s.cAlt := rfl
@[simp] theorem State.jumpRel_dAlt (s : State) (v : Byte) : (s.jumpRel v).dAlt = s.dAlt := rfl
@[simp] theorem State.jumpRel_eAlt (s : State) (v : Byte) : (s.jumpRel v).eAlt = s.eAlt := rfl
@[simp] theorem State.jumpRel_hAlt (s : State) (v : Byte) : (s.jumpRel v).hAlt = s.hAlt := rfl
@[simp] theorem State.jumpRel_lAlt (s : State) (v : Byte) : (s.jumpRel v).lAlt = s.lAlt := rfl
@[simp] theorem State.jumpRel_ix (s : State) (v : Byte) : (s.jumpRel v).ix = s.ix := rfl
@[simp] theorem State.jumpRel_iy (s : State) (v : Byte) : (s.jumpRel v).iy = s.iy := rfl
@[simp] theorem State.jumpRel_sp (s : State) (v : Byte) : (s.jumpRel v).sp = s.sp := rfl
@[simp] theorem State.jumpRel_i (s : State) (v : Byte) : (s.jumpRel v).i = s.i := rfl
@[simp] theorem State.jumpRel_r (s : State) (v : Byte) : (s.jumpRel v).r = s.r := rfl
@[simp] theorem State.jumpRel_iff1 (s : State) (v : Byte) : (s.jumpRel v).iff1 = s.iff1 := rfl
@[simp] theorem State.jumpRel_iff2 (s : State) (v : Byte) : (s.jumpRel v).iff2 = s.iff2 := rfl
@[simp] theorem State.jumpRel_im (s : State) (v : Byte) : (s.jumpRel v).im = s.im := rfl
@[simp] theorem State.jumpRel_halted (s : State) (v : Byte) : (s.jumpRel v).halted = s.halted := rfl
@[simp] theorem State.jumpRel_cycles (s : State) (v : Byte) : (s.jumpRel v).cycles = s.cycles := rfl
@[simp] theorem State.jumpRel_intPending (s : State) (v : Byte) : (s.jumpRel v).intPending = s.intPending := rfl
@[simp] theorem State.jumpRel_nmiPending (s : State) (v : Byte) : (s.jumpRel v).nmiPending = s.nmiPending := rfl
@[simp] theorem State.jumpRel_intBlock (s : State) (v : Byte) : (s.jumpRel v).intBlock = s.intBlock := rfl
@[simp] theorem State.jumpRel_mem (s : State) (v : Byte) : (s.jumpRel v).mem = s.mem := rfl
@[simp] theorem State.jumpRel_io (s : State) (v : Byte) : (s.jumpRel v).io = s.io := rfl
@[simp] theorem State.jumpRel_diag (s : State) (v : Byte) : (s.jumpRel v).diag = s.diag := rfl
@[simp] theorem State.jumpRel_params (s : State) (v : Byte) : (s.jumpRel v).params = s.params := rfl
@[simp] theorem State.jumpRel_draws (s : State) (v : Byte) : (s.jumpRel v).draws = s.draws := rfl
@[simp] theorem State.jumpRel_get8 (s : State) (v : Byte) (x : Reg8) : (s.jumpRel v).get8 x = s.get8 x := by cases x <;> rfl
@[simp] theorem State.jumpRel_idx (s : State) (v : Byte) (x : Idx) : (s.jumpRel v).idx x = s.idx x := by cases x <;> rfl
@[simp] theorem State.jumpRel_ea (s : State) (v : Byte) (x : Idx) (k : Byte) : (s.jumpRel v).ea x k = s.ea x k := by cases x <;> rfl
@[simp] theorem State.jumpRel_get16 (s : State) (v : Byte) (x : Pair) : (s.jumpRel v).get16 x = s.get16 x := by cases x <;> rfl
@[simp] theorem State.jumpRel_bc (s : State) (v : Byte) : (s.jumpRel v).bc = s.bc := rfl
@[simp] theorem State.jumpRel_de (s : State) (v : Byte) : (s.jumpRel v).de = s.de := rfl
@[simp] theorem State.jumpRel_hl (s : State) (v : Byte) : (s.jumpRel v).hl = s.hl := rfl
@[simp] theorem State.jumpRel_cond (s : State) (v : Byte) (x : Cond) : (s.jumpRel v).cond x = s.cond x := by cases x <;> rfl
@[simp] theorem State.jumpRel_peek (s : State) (v : Byte) (x : Word) : (s.jumpRel v).peek x = s.peek x := rfl
@[simp] theorem State.jumpRel_portValue (s : State) (v : Byte) (x : Word) : (s.jumpRel v).portValue x = s.portValue x := rfl

/-! ### spend -/

@[simp] theorem State.spend_a (s : State) (n : Nat) : (s.spend n).a = s.a := rfl
@[simp] theorem State.spend_f (s : State) (n : Nat) : (s.spend n).f = s.f := rfl
@[simp] theorem State.spend_b (s : State) (n : Nat) : (s.spend n).b = s.b := rfl
@[simp] theorem State.spend_c (s : State) (n : Nat) : (s.spend n).c = s.c := rfl
@[simp] theorem State.spend_d (s : State) (n : Nat) : (s.spend n).d = s.d := rfl
@[simp] theorem State.spend_e (s : State) (n : Nat) : (s.spend n).e = s.e := rfl
@[simp] theorem State.spend_h (s : State) (n : Nat) : (s.spend n).h = s.h := rfl
@[simp] theorem State.spend_l (s : State) (n : Nat) : (s.spend n).l = s.l := rfl
@[simp] theorem State.spend_aAlt (s : State) (n : Nat) : (s.spend n).aAlt = s.aAlt := rfl
@[simp] theorem State.spend_fAlt (s : State) (n : Nat) : (s.spend n).fAlt = s.fAlt := rfl
@[simp] theorem State.spend_bAlt (s : State) (n : Nat) : (s.spend n).bAlt = s.bAlt := rfl
@[simp] theorem State.spend_cAlt (s : State) (n : Nat) : (s.spend n).cAlt = s.cAlt := rfl
@[simp] theorem State.spend_dAlt (s : State) (n : Nat) : (s.spend n).dAlt = s.dAlt := rfl
@[simp] theorem State.spend_eAlt (s : State) (n : Nat) : (s.spend n).eAlt = s.eAlt := rfl
@[simp] theorem State.spend_hAlt (s : State) (n : Nat) : (s.spend n).hAlt = s.hAlt := rfl
@[simp] theorem State.spend_lAlt (s : State) (n : Nat) : (s.spend n).lAlt = s.lAlt := rfl
@[simp] theorem State.spend_ix (s : State) (n : Nat) : (s.spend n).ix = s.ix := rfl
@[simp] theorem State.spend_iy (s : State) (n : Nat) : (s.spend n).iy = s.iy := rfl
@[simp] theorem State.spend_sp (s : State) (n : Nat) : (s.spend n).sp = s.sp := rfl
@[simp] theorem State.spend_pc (s : State) (n : Nat) : (s.spend n).pc = s.pc := rfl
@[simp] theorem State.spend_i (s : State) (n : Nat) : (s.spend n).i = s.i := rfl
@[simp] theorem State.spend_r (s : State) (n : Nat) : (s.spend n).r = s.r := rfl
@[simp] theorem State.spend_iff1 (s : State) (n : Nat) : (s.spend n).iff1 = s.iff1 := rfl
@[simp] theorem State.spend_iff2 (s : State) (n : Nat) : (s.spend n).iff2 = s.iff2 := rfl
@[simp] theorem State.spend_im (s : State) (n : Nat) : (s.spend n).im = s.im := rfl
@[simp] theorem State.spend_halted (s : State) (n : Nat) : (s.spend n).halted = s.halted := rfl
@[simp] theorem State.spend_intPending (s : State) (n : Nat) : (s.spend n).intPending = s.intPending := rfl
@[simp] theorem State.spend_nmiPending (s : State) (n : Nat) : (s.spend n).nmiPending = s.nmiPending := rfl
@[simp] theorem State.spend_intBlock (s : State) (n : Nat) : (s.spend n).intBlock = s.intBlock := rfl
@[simp] theorem State.spend_mem (s : State) (n : Nat) : (s.spend n).mem = s.mem := rfl
@[simp] theorem State.spend_io (s : State) (n : Nat) : (s.spend n).io = s.io := rfl
@[simp] theorem State.spend_diag (s : State) (n : Nat) : (s.spend n).diag = s.diag := rfl
@[simp] theorem State.spend_params (s : State) (n : Nat) : (s.spend n).params = s.params := rfl
@[simp] theorem State.spend_draws (s : State) (n : Nat) : (s.spend n).draws = s.draws := rfl
@[simp] theorem State.spend_get8 (s : State) (n : Nat) (x : Reg8) : (s.spend n).get8 x = s.get8 x := by cases x <;> rfl
@[simp] theorem State.spend_idx (s : State) (n : Nat) (x : Idx) : (s.spend n).idx x = s.idx x := by cases x <;> rfl
@[simp] theorem State.spend_ea (s : State) (n : Nat) (x : Idx) (k : Byte) : (s.spend n).ea x k = s.ea x k := by cases x <;> rfl
@[simp] theorem State.spend_get16 (s : State) (n : Nat) (x : Pair) : (s.spend n).get16 x = s.get16 x := by cases x <;> rfl
@[simp] theorem State.spend_bc (s : State) (n : Nat) : (s.spend n).bc = s.bc := rfl
@[simp] theorem State.spend_de (s : State) (n : Nat) : (s.spend n).de = s.de := rfl
@[simp] theorem State.spend_hl (s : State) (n : Nat) : (s.spend n).hl = s.hl := rfl
@[simp] theorem State.spend_cond (s : State) (n : Nat) (x : Cond) : (s.spend n).cond x = s.cond x := by cases x <;> rfl
@[simp] theorem State.spend_peek (s : State) (n : Nat) (x : Word) : (s.spend n).peek x = s.peek x := rfl
@[simp] theorem State.spend_portValue (s : State) (n : Nat) (x : Word) : (s.spend n).portValue x = s.portValue x := rfl

/-! ### writeFlags -/

@[simp] theorem State.writeFlags_a (s : State) (g : Flags) (src : XySource) : (s.writeFlags g src).a = s.a := rfl
@[simp] theorem State.writeFlags_b (s : State) (g : Flags) (src : XySource) : (s.writeFlags g src).b = s.b := rfl
@[simp] theorem State.writeFlags_c (s : State) (g : Flags) (src : XySource) : (s.writeFlags g src).c = s.c := rfl
@[simp] theorem State.writeFlags_d (s : State) (g : Flags) (src : XySource) : (s.writeFlags g src).d = s.d := rfl
@[simp] theorem State.writeFlags_e (s : State) (g : Flags) (src : XySource) : (s.writeFlags g src).e = s.e := rfl
@[simp] theorem State.writeFlags_h (s : State) (g : Flags) (src : XySource) : (s.writeFlags g src).h = s.h := rfl
@[simp] theorem State.writeFlags_l (s : State) (g : Flags) (src : XySource) : (s.writeFlags g src).l = s.l := rfl
@[simp] theorem State.writeFlags_aAlt (s : State) (g : Flags) (src : XySource) : (s.writeFlags g src).aAlt = s.aAlt := rfl
@[simp] theorem State.writeFlags_fAlt (s : State) (g : Flags) (src : XySource) : (s.writeFlags g src).fAlt = s.fAlt := rfl
@[simp] theorem State.writeFlags_bAlt (s : State) (g : Flags) (src : XySource) : (s.writeFlags g src).bAlt = s.bAlt := rfl
@[simp] theorem State.writeFlags_cAlt (s : State) (g : Flags) (src : XySource) : (s.writeFlags g src).cAlt = s.cAlt := rfl
@[simp] theorem State.writeFlags_dAlt (s : State) (g : Flags) (src : XySource) : (s.writeFlags g src).dAlt = s.dAlt := rfl
@[simp] theorem State.writeFlags_eAlt (s : State) (g : Flags) (src : XySource) : (s.writeFlags g src).eAlt = s.eAlt := rfl
@[simp] theorem State.writeFlags_hAlt (s : State) (g : Flags) (src : XySource) : (s.writeFlags g src).hAlt = s.hAlt := rfl
@[simp] theorem State.writeFlags_lAlt (s : State) (g : Flags) (src : XySource) : (s.writeFlags g src).lAlt = s.lAlt := rfl
@[simp] theorem State.writeFlags_ix (s : State) (g : Flags) (src : XySource) : (s.writeFlags g src).ix = s.ix := rfl
@[simp] theorem State.writeFlags_iy (s : State) (g : Flags) (src : XySource) : (s.writeFlags g src).iy = s.iy := rfl
@[simp] theorem State.writeFlags_sp (s : State) (g : Flags) (src : XySource) : (s.writeFlags g src).sp = s.sp := rfl
@[simp] theorem State.writeFlags_pc (s : State) (g : Flags) (src : XySource) : (s.writeFlags g src).pc = s.pc := rfl
@[simp] theorem State.writeFlags_i (s : State) (g : Flags) (src : XySource) : (s.writeFlags g src).i = s.i := rfl
@[simp] theorem State.writeFlags_r (s : State) (g : Flags) (src : XySource) : (s.writeFlags g src).r = s.r := rfl
@[simp] theorem State.writeFlags_iff1 (s : State) (g : Flags) (src : XySource) : (s.writeFlags g src).iff1 = s.iff1 := rfl
@[simp] theorem State.writeFlags_iff2 (s : State) (g : Flags) (src : XySource) : (s.writeFlags g src).iff2 = s.iff2 := rfl
@[simp] theorem State.writeFlags_im (s : State) (g : Flags) (src : XySource) : (s.writeFlags g src).im = s.im := rfl
@[simp] theorem State.writeFlags_halted (s : State) (g : Flags) (src : XySource) : (s.writeFlags g src).halted = s.halted := rfl
@[simp] theorem State.writeFlags_cycles (s : State) (g : Flags) (src : XySource) : (s.writeFlags g src).cycles = s.cycles := rfl
@[simp] theorem State.writeFlags_intPending (s : State) (g : Flags) (src : XySource) : (s.writeFlags g src).intPending = s.intPending := rfl
@[simp] theorem State.writeFlags_nmiPending (s : State) (g : Flags) (src : XySource) : (s.writeFlags g src).nmiPending = s.nmiPending := rfl
@[simp] theorem State.writeFlags_intBlock (s : State) (g : Flags) (src : XySource) : (s.writeFlags g src).intBlock = s.intBlock := rfl
@[simp] theorem State.writeFlags_mem (s : State) (g : Flags) (src : XySource) : (s.writeFlags g src).mem = s.mem := rfl
@[simp] theorem State.writeFlags_io (s : State) (g : Flags) (src : XySource) : (s.writeFlags g src).io = s.io := rfl
@[simp] theorem State.writeFlags_diag (s : State) (g : Flags) (src : XySource) : (s.writeFlags g src).diag = s.diag := rfl
@[simp] theorem State.writeFlags_params (s : State) (g : Flags) (src : XySource) : (s.writeFlags g src).params = s.params := rfl
@[simp] theorem State.writeFlags_get8 (s : State) (g : Flags) (src : XySource) (x : Reg8) : (s.writeFlags g src).get8 x = s.get8 x := by cases x <;> rfl
@[simp] theorem State.writeFlags_idx (s : State) (g : Flags) (src : XySource) (x : Idx) : (s.writeFlags g src).idx x = s.idx x := by cases x <;> rfl
@[simp] theorem State.writeFlags_ea (s : State) (g : Flags) (src : XySource) (x : Idx) (k : Byte) : (s.writeFlags g src).ea x k = s.ea x k := by cases x <;> rfl
@[simp] theorem State.writeFlags_get16 (s : State) (g : Flags) (src : XySource) (x : Pair) : (s.writeFlags g src).get16 x = s.get16 x := by cases x <;> rfl
@[simp] theorem State.writeFlags_bc (s : State) (g : Flags) (src : XySource) : (s.writeFlags g src).bc = s.bc := rfl
@[simp] theorem State.writeFlags_de (s : State) (g : Flags) (src : XySource) : (s.writeFlags g src).de = s.de := rfl
@[simp] theorem State.writeFlags_hl (s : State) (g : Flags) (src : XySource) : (s.writeFlags g src).hl = s.hl := rfl
@[simp] theorem State.writeFlags_peek (s : State) (g : Flags) (src : XySource) (x : Word) : (s.writeFlags g src).peek x = s.peek x := rfl
@[simp] theorem State.writeFlags_portValue (s : State) (g : Flags) (src : XySource) (x : Word) : (s.writeFlags g src).portValue x = s.portValue x := rfl

/-! ### poke -/

@[simp] theorem State.poke_a (s : State) (w : Word) (v : Byte) : (s.poke w v).a = s.a := rfl
@[simp] theorem State.poke_f (s : State) (w : Word) (v : Byte) : (s.poke w v).f = s.f := rfl
@[simp] theorem State.poke_b (s : State) (w : Word) (v : Byte) : (s.poke w v).b = s.b := rfl
@[simp] theorem State.poke_c (s : State) (w : Word) (v : Byte) : (s.poke w v).c = s.c := rfl
@[simp] theorem State.poke_d (s : State) (w : Word) (v : Byte) : (s.poke w v).d = s.d := rfl
@[simp] theorem State.poke_e (s : State) (w : Word) (v : Byte) : (s.poke w v).e = s.e := rfl
@[simp] theorem State.poke_h (s : State) (w : Word) (v : Byte) : (s.poke w v).h = s.h := rfl
@[simp] theorem State.poke_l (s : State) (w : Word) (v : Byte) : (s.poke w v).l = s.l := rfl
@[simp] theorem State.poke_aAlt (s : State) (w : Word) (v : Byte) : (s.poke w v).aAlt = s.aAlt := rfl
@[simp] theorem State.poke_fAlt (s : State) (w : Word) (v : Byte) : (s.poke w v).fAlt = s.fAlt := rfl
@[simp] theorem State.poke_bAlt (s : State) (w : Word) (v : Byte) : (s.poke w v).bAlt = s.bAlt := rfl
@[simp] theorem State.poke_cAlt (s : State) (w : Word) (v : Byte) : (s.poke w v).cAlt = s.cAlt := rfl
@[simp] theorem State.poke_dAlt (s : State) (w : Word) (v : Byte) : (s.poke w v).dAlt = s.dAlt := rfl
@[simp] theorem State.poke_eAlt (s : State) (w : Word) (v : Byte) : (s.poke w v).eAlt = s.eAlt := rfl
@[simp] theorem State.poke_hAlt (s : State) (w : Word) (v : Byte) : (s.poke w v).hAlt = s.hAlt := rfl
@[simp] theorem State.poke_lAlt (s : State) (w : Word) (v : Byte) : (s.poke w v).lAlt = s.lAlt := rfl
@[simp] theorem State.poke_ix (s : State) (w : Word) (v : Byte) : (s.poke w v).ix = s.ix := rfl
@[simp] theorem State.poke_iy (s : State) (w : Word) (v : Byte) : (s.poke w v).iy = s.iy := rfl
@[simp] theorem State.poke_sp (s : State) (w : Word) (v : Byte) : (s.poke w v).sp = s.sp := rfl
@[simp] theorem State.poke_pc (s : State) (w : Word) (v : Byte) : (s.poke w v).pc = s.pc := rfl
@[simp] theorem State.poke_i (s : State) (w : Word) (v : Byte) : (s.poke w v).i = s.i := rfl
@[simp] theorem State.poke_r (s : State) (w : Word) (v : Byte) : (s.poke w v).r = s.r := rfl
@[simp] theorem State.poke_iff1 (s : State) (w : Word) (v : Byte) : (s.poke w v).iff1 = s.iff1 := rfl
@[simp] theorem State.poke_iff2 (s : State) (w : Word) (v : Byte) : (s.poke w v).iff2 = s.iff2 := rfl
@[simp] theorem State.poke_im (s : State) (w : Word) (v : Byte) : (s.poke w v).im = s.im := rfl
@[simp] theorem State.poke_halted (s : State) (w : Word) (v : Byte) : (s.poke w v).halted = s.halted := rfl
@[simp] theorem State.poke_cycles (s : State) (w : Word) (v : Byte) : (s.poke w v).cycles = s.cycles := rfl
@[simp] theorem State.poke_intPending (s : State) (w : Word) (v : Byte) : (s.poke w v).intPending = s.intPending := rfl
@[simp] theorem State.poke_nmiPending (s : State) (w : Word) (v : Byte) : (s.poke w v).nmiPending = s.nmiPending := rfl
@[simp] theorem State.poke_intBlock (s : State) (w : Word) (v : Byte) : (s.poke w v).intBlock = s.intBlock := rfl
@[simp] theorem State.poke_io (s : State) (w : Word) (v : Byte) : (s.poke w v).io = s.io := rfl
@[simp] theorem State.poke_diag (s : State) (w : Word) (v : Byte) : (s.poke w v).diag = s.diag := rfl
@[simp] theorem State.poke_params (s : State) (w : Word) (v : Byte) : (s.poke w v).params = s.params := rfl
@[simp] theorem State.poke_draws (s : State) (w : Word) (v : Byte) : (s.poke w v).draws = s.draws := rfl
@[simp] theorem State.poke_get8 (s : State) (w : Word) (v : Byte) (x : Reg8) : (s.poke w v).get8 x = s.get8 x := by cases x <;> rfl
@[simp] theorem State.poke_idx (s : State) (w : Word) (v : Byte) (x : Idx) : (s.poke w v).idx x = s.idx x := by cases x <;> rfl
@[simp] theorem State.poke_ea (s : State) (w : Word) (v : Byte) (x : Idx) (k : Byte) : (s.poke w v).ea x k = s.ea x k := by cases x <;> rfl
@[simp] theorem State.poke_get16 (s : State) (w : Word) (v : Byte) (x : Pair) : (s.poke w v).get16 x = s.get16 x := by cases x <;> rfl
@[simp] theorem State.poke_bc (s : State) (w : Word) (v : Byte) : (s.poke w v).bc = s.bc := rfl
@[simp] theorem State.poke_de (s : State) (w : Word) (v : Byte) : (s.poke w v).de = s.de := rfl
@[simp] theorem State.poke_hl (s : State) (w : Word) (v : Byte) : (s.poke w v).hl = s.hl := rfl
@[simp] theorem State.poke_cond (s : State) (w : Word) (v : Byte) (x : Cond) : (s.poke w v).cond x = s.cond x := by cases x <;> rfl
@[simp] theorem State.poke_portValue (s : State) (w : Word) (v : Byte) (x : Word) : (s.poke w v).portValue x = s.portValue x := rfl

/-! ### readPort -/

@[simp] theorem State.readPort_a (s : State) (w : Word) : (s.readPort w).a = s.a := rfl
@[simp] theorem State.readPort_f (s : State) (w : Word) : (s.readPort w).f = s.f := rfl
@[simp] theorem State.readPort_b (s : State) (w : Word) : (s.readPort w).b = s.b := rfl
@[simp] theorem State.readPort_c (s : State) (w : Word) : (s.readPort w).c = s.c := rfl
@[simp] theorem State.readPort_d (s : State) (w : Word) : (s.readPort w).d = s.d := rfl
@[simp] theorem State.readPort_e (s : State) (w : Word) : (s.readPort w).e = s.e := rfl
@[simp] theorem State.readPort_h (s : State) (w : Word) : (s.readPort w).h = s.h := rfl
@[simp] theorem State.readPort_l (s : State) (w : Word) : (s.readPort w).l = s.l := rfl
@[simp] theorem State.readPort_aAlt (s : State) (w : Word) : (s.readPort w).aAlt = s.aAlt := rfl
@[simp] theorem State.readPort_fAlt (s : State) (w : Word) : (s.readPort w).fAlt = s.fAlt := rfl
@[simp] theorem State.readPort_bAlt (s : State) (w : Word) : (s.readPort w).bAlt = s.bAlt := rfl
@[simp] theorem State.readPort_cAlt (s : State) (w : Word) : (s.readPort w).cAlt = s.cAlt := rfl
@[simp] theorem State.readPort_dAlt (s : State) (w : Word) : (s.readPort w).dAlt = s.dAlt := rfl
@[simp] theorem State.readPort_eAlt (s : State) (w : Word) : (s.readPort w).eAlt = s.eAlt := rfl
@[simp] theorem State.readPort_hAlt (s : State) (w : Word) : (s.readPort w).hAlt = s.hAlt := rfl
@[simp] theorem State.readPort_lAlt (s : State) (w : Word) : (s.readPort w).lAlt = s.lAlt := rfl
@[simp] theorem State.readPort_ix (s : State) (w : Word) : (s.readPort w).ix = s.ix := rfl
@[simp] theorem State.readPort_iy (s : State) (w : Word) : (s.readPort w).iy = s.iy := rfl
@[simp] theorem State.readPort_sp (s : State) (w : Word) : (s.readPort w).sp = s.sp := rfl
@[simp] theorem State.readPort_pc (s : State) (w : Word) : (s.readPort w).pc = s.pc := rfl
@[simp] theorem State.readPort_i (s : State) (w : Word) : (s.readPort w).i = s.i := rfl
@[simp] theorem State.readPort_r (s : State) (w : Word) : (s.readPort w).r = s.r := rfl
@[simp] theorem State.readPort_iff1 (s : State) (w : Word) : (s.readPort w).iff1 = s.iff1 := rfl
@[simp] theorem State.readPort_iff2 (s : State) (w : Word) : (s.readPort w).iff2 = s.iff2 := rfl
@[simp] theorem State.readPort_im (s : State) (w : Word) : (s.readPort w).im = s.im := rfl
@[simp] theorem State.readPort_halted (s : State) (w : Word) : (s.readPort w).halted = s.halted := rfl
@[simp] theorem State.readPort_cycles (s : State) (w : Word) : (s.readPort w).cycles = s.cycles := rfl
@[simp] theorem State.readPort_intPending (s : State) (w : Word) : (s.readPort w).intPending = s.intPending := rfl
@[simp] theorem State.readPort_nmiPending (s : State) (w : Word) : (s.readPort w).nmiPending = s.nmiPending := rfl
@[simp] theorem State.readPort_intBlock (s : State) (w : Word) : (s.readPort w).intBlock = s.intBlock := rfl
@[simp] theorem State.readPort_mem (s : State) (w : Word) : (s.readPort w).mem = s.mem := rfl
@[simp] theorem State.readPort_diag (s : State) (w : Word) : (s.readPort w).diag = s.diag := rfl
@[simp] theorem State.readPort_params (s : State) (w : Word) : (s.readPort w).params = s.params := rfl
@[simp] theorem State.readPort_draws (s : State) (w : Word) : (s.readPort w).draws = s.draws := rfl
@[simp] theorem State.readPort_get8 (s : State) (w : Word) (x : Reg8) : (s.readPort w).get8 x = s.get8 x := by cases x <;> rfl
@[simp] theorem State.readPort_idx (s : State) (w : Word) (x : Idx) : (s.readPort w).idx x = s.idx x := by cases x <;> rfl
@[simp] theorem State.readPort_ea (s : State) (w : Word) (x : Idx) (k : Byte) : (s.readPort w).ea x k = s.ea x k := by cases x <;> rfl
@[simp] theorem State.readPort_get16 (s : State) (w : Word) (x : Pair) : (s.readPort w).get16 x = s.get16 x := by cases x <;> rfl
@[simp] theorem State.readPort_bc (s : State) (w : Word) : (s.readPort w).bc = s.bc := rfl
@[simp] theorem State.readPort_de (s : State) (w : Word) : (s.readPort w).de = s.de := rfl
@[simp] theorem State.readPort_hl (s : State) (w : Word) : (s.readPort w).hl = s.hl := rfl
@[simp] theorem State.readPort_cond (s : State) (w : Word) (x : Cond) : (s.readPort w).cond x = s.cond x := by cases x <;> rfl
@[simp] theorem State.readPort_peek (s : State) (w : Word) (x : Word) : (s.readPort w).peek x = s.peek x := rfl

/-! ### writePort -/

@[simp] theorem State.writePort_a (s : State) (w : Word) (v : Byte) : (s.writePort w v).a = s.a := rfl
@[simp] theorem State.writePort_f (s : State) (w : Word) (v : Byte) : (s.writePort w v).f = s.f := rfl
@[simp] theorem State.writePort_b (s : State) (w : Word) (v : Byte) : (s.writePort w v).b = s.b := rfl
@[simp] theorem State.writePort_c (s : State) (w : Word) (v : Byte) : (s.writePort w v).c = s.c := rfl
@[simp] theorem State.writePort_d (s : State) (w : Word) (v : Byte) : (s.writePort w v).d = s.d := rfl
@[simp] theorem State.writePort_e (s : State) (w : Word) (v : Byte) : (s.writePort w v).e = s.e := rfl
@[simp] theorem State.writePort_h (s : State) (w : Word) (v : Byte) : (s.writePort w v).h = s.h := rfl
@[simp] theorem State.writePort_l (s : State) (w : Word) (v : Byte) : (s.writePort w v).l = s.l := rfl
@[simp] theorem State.writePort_aAlt (s : State) (w : Word) (v : Byte) : (s.writePort w v).aAlt = s.aAlt := rfl
@[simp] theorem State.writePort_fAlt (s : State) (w : Word) (v : Byte) : (s.writePort w v).fAlt = s.fAlt := rfl
@[simp] theorem State.writePort_bAlt (s : State) (w : Word) (v : Byte) : (s.writePort w v).bAlt = s.bAlt := rfl
@[simp] theorem State.writePort_cAlt (s : State) (w : Word) (v : Byte) : (s.writePort w v).cAlt = s.cAlt := rfl
@[simp] theorem State.writePort_dAlt (s : State) (w : Word) (v : Byte) : (s.writePort w v).dAlt = s.dAlt := rfl
@[simp] theorem State.writePort_eAlt (s : State) (w : Word) (v : Byte) : (s.writePort w v).eAlt = s.eAlt := rfl
@[simp] theorem State.writePort_hAlt (s : State) (w : Word) (v : Byte) : (s.writePort w v).hAlt = s.hAlt := rfl
@[simp] theorem State.writePort_lAlt (s : State) (w : Word) (v : Byte) : (s.writePort w v).lAlt = s.lAlt := rfl
@[simp] theorem State.writePort_ix (s : State) (w : Word) (v : Byte) : (s.writePort w v).ix = s.ix := rfl
@[simp] theorem State.writePort_iy (s : State) (w : Word) (v : Byte) : (s.writePort w v).iy = s.iy := rfl
@[simp] theorem State.writePort_sp (s : State) (w : Word) (v : Byte) : (s.writePort w v).sp = s.sp := rfl
@[simp] theorem State.writePort_pc (s : State) (w : Word) (v : Byte) : (s.writePort w v).pc = s.pc := rfl
@[simp] theorem State.writePort_i (s : State) (w : Word) (v : Byte) : (s.writePort w v).i = s.i := rfl
@[simp] theorem State.writePort_r (s : State) (w : Word) (v : Byte) : (s.writePort w v).r = s.r := rfl
@[simp] theorem State.writePort_iff1 (s : State) (w : Word) (v : Byte) : (s.writePort w v).iff1 = s.iff1 := rfl
@[simp] theorem State.writePort_iff2 (s : State) (w : Word) (v : Byte) : (s.writePort w v).iff2 = s.iff2 := rfl
@[simp] theorem State.writePort_im (s : State) (w : Word) (v : Byte) : (s.writePort w v).im = s.im := rfl
@[simp] theorem State.writePort_halted (s : State) (w : Word) (v : Byte) : (s.writePort w v).halted = s.halted := rfl
@[simp] theorem State.writePort_cycles (s : State) (w : Word) (v : Byte) : (s.writePort w v).cycles = s.cycles := rfl
@[simp] theorem State.writePort_intPending (s : State) (w : Word) (v : Byte) : (s.writePort w v).intPending = s.intPending := rfl
@[simp] theorem State.writePort_nmiPending (s : State) (w : Word) (v : Byte) : (s.writePort w v).nmiPending = s.nmiPending := rfl
@[simp] theorem State.writePort_intBlock (s : State) (w : Word) (v : Byte) : (s.writePort w v).intBlock = s.intBlock := rfl
@[simp] theorem State.writePort_mem (s : State) (w : Word) (v : Byte) : (s.writePort w v).mem = s.mem := rfl
@[simp] theorem State.writePort_diag (s : State) (w : Word) (v : Byte) : (s.writePort w v).diag = s.diag := rfl
@[simp] theorem State.writePort_params (s : State) (w : Word) (v : Byte) : (s.writePort w v).params = s.params := rfl
@[simp] theorem State.writePort_draws (s : State) (w : Word) (v : Byte) : (s.writePort w v).draws = s.draws := rfl
@[simp] theorem State.writePort_get8 (s : State) (w : Word) (v : Byte) (x : Reg8) : (s.writePort w v).get8 x = s.get8 x := by cases x <;> rfl
@[simp] theorem State.writePort_idx (s : State) (w : Word) (v : Byte) (x : Idx) : (s.writePort w v).idx x = s.idx x := by cases x <;> rfl
@[simp] theorem State.writePort_ea (s : State) (w : Word) (v : Byte) (x : Idx) (k : Byte) : (s.writePort w v).ea x k = s.ea x k := by cases x <;> rfl
@[simp] theorem State.writePort_get16 (s : State) (w : Word) (v : Byte) (x : Pair) : (s.writePort w v).get16 x = s.get16 x := by cases x <;> rfl
@[simp] theorem State.writePort_bc (s : State) (w : Word) (v : Byte) : (s.writePort w v).bc = s.bc := rfl
@[simp] theorem State.writePort_de (s : State) (w : Word) (v : Byte) : (s.writePort w v).de = s.de := rfl
@[simp] theorem State.writePort_hl (s : State) (w : Word) (v : Byte) : (s.writePort w v).hl = s.hl := rfl
@[simp] theorem State.writePort_cond (s : State) (w : Word) (v : Byte) (x : Cond) : (s.writePort w v).cond x = s.cond x := by cases x <;> rfl
@[simp] theorem State.writePort_peek (s : State) (w : Word) (v : Byte) (x : Word) : (s.writePort w v).peek x = s.peek x := rfl

/-! ### report -/

@[simp] theorem State.report_a (s : State) (g : DiagEvent) : (s.report g).a = s.a := rfl
@[simp] theorem State.report_f (s : State) (g : DiagEvent) : (s.report g).f = s.f := rfl
@[simp] theorem State.report_b (s : State) (g : DiagEvent) : (s.report g).b = s.b := rfl
@[simp] theorem State.report_c (s : State) (g : DiagEvent) : (s.report g).c = s.c := rfl
@[simp] theorem State.report_d (s : State) (g : DiagEvent) : (s.report g).d = s.d := rfl
@[simp] theorem State.report_e (s : State) (g : DiagEvent) : (s.report g).e = s.e := rfl
@[simp] theorem State.report_h (s : State) (g : DiagEvent) : (s.report g).h = s.h := rfl
@[simp] theorem State.report_l (s : State) (g : DiagEvent) : (s.report g).l = s.l := rfl
@[simp] theorem State.report_aAlt (s : State) (g : DiagEvent) : (s.report g).aAlt = s.aAlt := rfl
@[simp] theorem State.report_fAlt (s : State) (g : DiagEvent) : (s.report g).fAlt = s.fAlt := rfl
@[simp] theorem State.report_bAlt (s : State) (g : DiagEvent) : (s.report g).bAlt = s.bAlt := rfl
@[simp] theorem State.report_cAlt (s : State) (g : DiagEvent) : (s.report g).cAlt = s.cAlt := rfl
@[simp] theorem State.report_dAlt (s : State) (g : DiagEvent) : (s.report g).dAlt = s.dAlt := rfl
@[simp] theorem State.report_eAlt (s : State) (g : DiagEvent) : (s.report g).eAlt = s.eAlt := rfl
@[simp] theorem State.report_hAlt (s : State) (g : DiagEvent) : (s.report g).hAlt = s.hAlt := rfl
@[simp] theorem State.report_lAlt (s : State) (g : DiagEvent) : (s.report g).lAlt = s.lAlt := rfl
@[simp] theorem State.report_ix (s : State) (g : DiagEvent) : (s.report g).ix = s.ix := rfl
@[simp] theorem State.report_iy (s : State) (g : DiagEvent) : (s.report g).iy = s.iy := rfl
@[simp] theorem State.report_sp (s : State) (g : DiagEvent) : (s.report g).sp = s.sp := rfl
@[simp] theorem State.report_pc (s : State) (g : DiagEvent) : (s.report g).pc = s.pc := rfl
@[simp] theorem State.report_i (s : State) (g : DiagEvent) : (s.report g).i = s.i := rfl
@[simp] theorem State.report_r (s : State) (g : DiagEvent) : (s.report g).r = s.r := rfl
@[simp] theorem State.report_iff1 (s : State) (g : DiagEvent) : (s.report g).iff1 = s.iff1 := rfl
@[simp] theorem State.report_iff2 (s : State) (g : DiagEvent) : (s.report g).iff2 = s.iff2 := rfl
@[simp] theorem State.report_im (s : State) (g : DiagEvent) : (s.report g).im = s.im := rfl
@[simp] theorem State.report_halted (s : State) (g : DiagEvent) : (s.report g).halted = s.halted := rfl
@[simp] theorem State.report_cycles (s : State) (g : DiagEvent) : (s.report g).cycles = s.cycles := rfl
@[simp] theorem State.report_intPending (s : State) (g : DiagEvent) : (s.report g).intPending = s.intPending := rfl
@[simp] theorem State.report_nmiPending (s : State) (g : DiagEvent) : (s.report g).nmiPending = s.nmiPending := rfl
@[simp] theorem State.report_intBlock (s : State) (g : DiagEvent) : (s.report g).intBlock = s.intBlock := rfl
@[simp] theorem State.report_mem (s : State) (g : DiagEvent) : (s.report g).mem = s.mem := rfl
@[simp] theorem State.report_io (s : State) (g : DiagEvent) : (s.report g).io = s.io := rfl
@[simp] theorem State.report_params (s : State) (g : DiagEvent) : (s.report g).params = s.params := rfl
@[simp] theorem State.report_draws (s : State) (g : DiagEvent) : (s.report g).draws = s.draws := rfl
@[simp] theorem State.report_get8 (s : State) (g : DiagEvent) (x : Reg8) : (s.report g).get8 x = s.get8 x := by cases x <;> rfl
@[simp] theorem State.report_idx (s : State) (g : DiagEvent) (x : Idx) : (s.report g).idx x = s.idx x := by cases x <;> rfl
@[simp] theorem State.report_ea (s : State) (g : DiagEvent) (x : Idx) (k : Byte) : (s.report g).ea x k = s.ea x k := by cases x <;> rfl
@[simp] theorem State.report_get16 (s : State) (g : DiagEvent) (x : Pair) : (s.report g).get16 x = s.get16 x := by cases x <;> rfl
@[simp] theorem State.report_bc (s : State) (g : DiagEvent) : (s.report g).bc = s.bc := rfl
@[simp] theorem State.report_de (s : State) (g : DiagEvent) : (s.report g).de = s.de := rfl
@[simp] theorem State.report_hl (s : State) (g : DiagEvent) : (s.report g).hl = s.hl := rfl
@[simp] theorem State.report_cond (s : State) (g : DiagEvent) (x : Cond) : (s.report g).cond x = s.cond x := by cases x <;> rfl
@[simp] theorem State.report_peek (s : State) (g : DiagEvent) (x : Word) : (s.report g).peek x = s.peek x := rfl
@[simp] theorem State.report_portValue (s : State) (g : DiagEvent) (x : Word) : (s.report g).portValue x = s.portValue x := rfl

/-! ### advance -/

@[simp] theorem State.advance_a (s : State) (j : Instr) : (s.advance j).a = s.a := rfl
@[simp] theorem State.advance_f (s : State) (j : Instr) : (s.advance j).f = s.f := rfl
@[simp] theorem State.advance_b (s : State) (j : Instr) : (s.advance j).b = s.b := rfl
@[simp] theorem State.advance_c (s : State) (j : Instr) : (s.advance j).c = s.c := rfl
@[simp] theorem State.advance_d (s : State) (j : Instr) : (s.advance j).d = s.d := rfl
@[simp] theorem State.advance_e (s : State) (j : Instr) : (s.advance j).e = s.e := rfl
@[simp] theorem State.advance_h (s : State) (j : Instr) : (s.advance j).h = s.h := rfl
@[simp] theorem State.advance_l (s : State) (j : Instr) : (s.advance j).l = s.l := rfl
@[simp] theorem State.advance_aAlt (s : State) (j : Instr) : (s.advance j).aAlt = s.aAlt := rfl
@[simp] theorem State.advance_fAlt (s : State) (j : Instr) : (s.advance j).fAlt = s.fAlt := rfl
@[simp] theorem State.advance_bAlt (s : State) (j : Instr) : (s.advance j).bAlt = s.bAlt := rfl
@[simp] theorem State.advance_cAlt (s : State) (j : Instr) : (s.advance j).cAlt = s.cAlt := rfl
@[simp] theorem State.advance_dAlt (s : State) (j : Instr) : (s.advance j).dAlt = s.dAlt := rfl
@[simp] theorem State.advance_eAlt (s : State) (j : Instr) : (s.advance j).eAlt = s.eAlt := rfl
@[simp] theorem State.advance_hAlt (s : State) (j : Instr) : (s.advance j).hAlt = s.hAlt := rfl
@[simp] theorem State.advance_lAlt (s : State) (j : Instr) : (s.advance j).lAlt = s.lAlt := rfl
@[simp] theorem State.advance_ix (s : State) (j : Instr) : (s.advance j).ix = s.ix := rfl
@[simp] theorem State.advance_iy (s : State) (j : Instr) : (s.advance j).iy = s.iy := rfl
@[simp] theorem State.advance_sp (s : State) (j : Instr) : (s.advance j).sp = s.sp := rfl
@[simp] theorem State.advance_i (s : State) (j : Instr) : (s.advance j).i = s.i := rfl
@[simp] theorem State.advance_iff1 (s : State) (j : Instr) : (s.advance j).iff1 = s.iff1 := rfl
@[simp] theorem State.advance_iff2 (s : State) (j : Instr) : (s.advance j).iff2 = s.iff2 := rfl
@[simp] theorem State.advance_im (s : State) (j : Instr) : (s.advance j).im = s.im := rfl
@[simp] theorem State.advance_halted (s : State) (j : Instr) : (s.advance j).halted = s.halted := rfl
@[simp] theorem State.advance_cycles (s : State) (j : Instr) : (s.advance j).cycles = s.cycles := rfl
@[simp] theorem State.advance_intPending (s : State) (j : Instr) : (s.advance j).intPending = s.intPending := rfl
@[simp] theorem State.advance_nmiPending (s : State) (j : Instr) : (s.advance j).nmiPending = s.nmiPending := rfl
@[simp] theorem State.advance_intBlock (s : State) (j : Instr) : (s.advance j).intBlock = s.intBlock := rfl
@[simp] theorem State.advance_mem (s : State) (j : Instr) : (s.advance j).mem = s.mem := rfl
@[simp] theorem State.advance_io (s : State) (j : Instr) : (s.advance j).io = s.io := rfl
@[simp] theorem State.advance_diag (s : State) (j : Instr) : (s.advance j).diag = s.diag := rfl
@[simp] theorem State.advance_params (s : State) (j : Instr) : (s.advance j).params = s.params := rfl
@[simp] theorem State.advance_draws (s : State) (j : Instr) : (s.advance j).draws = s.draws := rfl
@[simp] theorem State.advance_get8 (s : State) (j : Instr) (x : Reg8) : (s.advance j).get8 x = s.get8 x := by cases x <;> rfl
@[simp] theorem State.advance_idx (s : State) (j : Instr) (x : Idx) : (s.advance j).idx x = s.idx x := by cases x <;> rfl
@[simp] theorem State.advance_ea (s : State) (j : Instr) (x : Idx) (k : Byte) : (s.advance j).ea x k = s.ea x k := by cases x <;> rfl
@[simp] theorem State.advance_get16 (s : State) (j : Instr) (x : Pair) : (s.advance j).get16 x = s.get16 x := by cases x <;> rfl
@[simp] theorem State.advance_bc (s : State) (j : Instr) : (s.advance j).bc = s.bc := rfl
@[simp] theorem State.advance_de (s : State) (j : Instr) : (s.advance j).de = s.de := rfl
@[simp] theorem State.advance_hl (s : State) (j : Instr) : (s.advance j).hl = s.hl := rfl
@[simp] theorem State.advance_cond (s : State) (j : Instr) (x : Cond) : (s.advance j).cond x = s.cond x := by cases x <;> rfl
@[simp] theorem State.advance_peek (s : State) (j : Instr) (x : Word) : (s.advance j).peek x = s.peek x := rfl
@[simp] theorem State.advance_portValue (s : State) (j : Instr) (x : Word) : (s.advance j).portValue x = s.portValue x := rfl

/-! ### What the updates write -/

@[simp] theorem State.set8_b_self (s : State) (v : Byte) : (s.set8 .b v).b = v := rfl
@[simp] theorem State.set8_c_self (s : State) (v : Byte) : (s.set8 .c v).c = v := rfl
@[simp] theorem State.set8_d_self (s : State) (v : Byte) : (s.set8 .d v).d = v := rfl
@[simp] theorem State.set8_e_self (s : State) (v : Byte) : (s.set8 .e v).e = v := rfl
@[simp] theorem State.set8_h_self (s : State) (v : Byte) : (s.set8 .h v).h = v := rfl
@[simp] theorem State.set8_l_self (s : State) (v : Byte) : (s.set8 .l v).l = v := rfl
@[simp] theorem State.set8_a_self (s : State) (v : Byte) : (s.set8 .a v).a = v := rfl
@[simp] theorem State.set16_sp_self (s : State) (v : Word) : (s.set16 .sp v).sp = v := rfl
@[simp] theorem State.set8_b_c (s : State) (v : Byte) : (s.set8 .b v).c = s.c := rfl
@[simp] theorem State.set8_b_d (s : State) (v : Byte) : (s.set8 .b v).d = s.d := rfl
@[simp] theorem State.set8_b_e (s : State) (v : Byte) : (s.set8 .b v).e = s.e := rfl
@[simp] theorem State.set8_b_h (s : State) (v : Byte) : (s.set8 .b v).h = s.h := rfl
@[simp] theorem State.set8_b_l (s : State) (v : Byte) : (s.set8 .b v).l = s.l := rfl
@[simp] theorem State.set8_b_a (s : State) (v : Byte) : (s.set8 .b v).a = s.a := rfl
@[simp] theorem State.set8_b_de (s : State) (v : Byte) : (s.set8 .b v).de = s.de := rfl
@[simp] theorem State.set8_b_hl (s : State) (v : Byte) : (s.set8 .b v).hl = s.hl := rfl
@[simp] theorem State.set8_c_b (s : State) (v : Byte) : (s.set8 .c v).b = s.b := rfl
@[simp] theorem State.set8_c_d (s : State) (v : Byte) : (s.set8 .c v).d = s.d := rfl
@[simp] theorem State.set8_c_e (s : State) (v : Byte) : (s.set8 .c v).e = s.e := rfl
@[simp] theorem State.set8_c_h (s : State) (v : Byte) : (s.set8 .c v).h = s.h := rfl
@[simp] theorem State.set8_c_l (s : State) (v : Byte) : (s.set8 .c v).l = s.l := rfl
@[simp] theorem State.set8_c_a (s : State) (v : Byte) : (s.set8 .c v).a = s.a := rfl
@[simp] theorem State.set8_c_de (s : State) (v : Byte) : (s.set8 .c v).de = s.de := rfl
@[simp] theorem State.set8_c_hl (s : State) (v : Byte) : (s.set8 .c v).hl = s.hl := rfl
@[simp] theorem State.set8_d_b (s : State) (v : Byte) : (s.set8 .d v).b = s.b := rfl
@[simp] theorem State.set8_d_c (s : State) (v : Byte) : (s.set8 .d v).c = s.c := rfl
@[simp] theorem State.set8_d_e (s : State) (v : Byte) : (s.set8 .d v).e = s.e := rfl
@[simp] theorem State.set8_d_h (s : State) (v : Byte) : (s.set8 .d v).h = s.h := rfl
@[simp] theorem State.set8_d_l (s : State) (v : Byte) : (s.set8 .d v).l = s.l := rfl
@[simp] theorem State.set8_d_a (s : State) (v : Byte) : (s.set8 .d v).a = s.a := rfl
@[simp] theorem State.set8_d_bc (s : State) (v : Byte) : (s.set8 .d v).bc = s.bc := rfl
@[simp] theorem State.set8_d_hl (s : State) (v : Byte) : (s.set8 .d v).hl = s.hl := rfl
@[simp] theorem State.set8_e_b (s : State) (v : Byte) : (s.set8 .e v).b = s.b := rfl
@[simp] theorem State.set8_e_c (s : State) (v : Byte) : (s.set8 .e v).c = s.c := rfl
@[simp] theorem State.set8_e_d (s : State) (v : Byte) : (s.set8 .e v).d = s.d := rfl
@[simp] theorem State.set8_e_h (s : State) (v : Byte) : (s.set8 .e v).h = s.h := rfl
@[simp] theorem State.set8_e_l (s : State) (v : Byte) : (s.set8 .e v).l = s.l := rfl
@[simp] theorem State.set8_e_a (s : State) (v : Byte) : (s.set8 .e v).a = s.a := rfl
@[simp] theorem State.set8_e_bc (s : State) (v : Byte) : (s.set8 .e v).bc = s.bc := rfl
@[simp] theorem State.set8_e_hl (s : State) (v : Byte) : (s.set8 .e v).hl = s.hl := rfl
@[simp] theorem State.set8_h_b (s : State) (v : Byte) : (s.set8 .h v).b = s.b := rfl
@[simp] theorem State.set8_h_c (s : State) (v : Byte) : (s.set8 .h v).c = s.c := rfl
@[simp] theorem State.set8_h_d (s : State) (v : Byte) : (s.set8 .h v).d = s.d := rfl
@[simp] theorem State.set8_h_e (s : State) (v : Byte) : (s.set8 .h v).e = s.e := rfl
@[simp] theorem State.set8_h_l (s : State) (v : Byte) : (s.set8 .h v).l = s.l := rfl
@[simp] theorem State.set8_h_a (s : State) (v : Byte) : (s.set8 .h v).a = s.a := rfl
@[simp] theorem State.set8_h_bc (s : State) (v : Byte) : (s.set8 .h v).bc = s.bc := rfl
@[simp] theorem State.set8_h_de (s : State) (v : Byte) : (s.set8 .h v).de = s.de := rfl
@[simp] theorem State.set8_l_b (s : State) (v : Byte) : (s.set8 .l v).b = s.b := rfl
@[simp] theorem State.set8_l_c (s : State) (v : Byte) : (s.set8 .l v).c = s.c := rfl
@[simp] theorem State.set8_l_d (s : State) (v : Byte) : (s.set8 .l v).d = s.d := rfl
@[simp] theorem State.set8_l_e (s : State) (v : Byte) : (s.set8 .l v).e = s.e := rfl
@[simp] theorem State.set8_l_h (s : State) (v : Byte) : (s.set8 .l v).h = s.h := rfl
@[simp] theorem State.set8_l_a (s : State) (v : Byte) : (s.set8 .l v).a = s.a := rfl
@[simp] theorem State.set8_l_bc (s : State) (v : Byte) : (s.set8 .l v).bc = s.bc := rfl
@[simp] theorem State.set8_l_de (s : State) (v : Byte) : (s.set8 .l v).de = s.de := rfl
@[simp] theorem State.set8_a_b (s : State) (v : Byte) : (s.set8 .a v).b = s.b := rfl
@[simp] theorem State.set8_a_c (s : State) (v : Byte) : (s.set8 .a v).c = s.c := rfl
@[simp] theorem State.set8_a_d (s : State) (v : Byte) : (s.set8 .a v).d = s.d := rfl
@[simp] theorem State.set8_a_e (s : State) (v : Byte) : (s.set8 .a v).e = s.e := rfl
@[simp] theorem State.set8_a_h (s : State) (v : Byte) : (s.set8 .a v).h = s.h := rfl
@[simp] theorem State.set8_a_l (s : State) (v : Byte) : (s.set8 .a v).l = s.l := rfl
@[simp] theorem State.set8_a_bc (s : State) (v : Byte) : (s.set8 .a v).bc = s.bc := rfl
@[simp] theorem State.set8_a_de (s : State) (v : Byte) : (s.set8 .a v).de = s.de := rfl
@[simp] theorem State.set8_a_hl (s : State) (v : Byte) : (s.set8 .a v).hl = s.hl := rfl
@[simp] theorem State.set16_bc_de (s : State) (v : Word) : (s.set16 .bc v).de = s.de := rfl
@[simp] theorem State.set16_bc_hl (s : State) (v : Word) : (s.set16 .bc v).hl = s.hl := rfl
@[simp] theorem State.set16_bc_sp (s : State) (v : Word) : (s.set16 .bc v).sp = s.sp := rfl
@[simp] theorem State.set16_bc_b (s : State) (v : Word) : (s.set16 .bc v).b = hiByte v := rfl
@[simp] theorem State.set16_bc_c (s : State) (v : Word) : (s.set16 .bc v).c = loByte v := rfl
@[simp] theorem State.set16_bc_d (s : State) (v : Word) : (s.set16 .bc v).d = s.d := rfl
@[simp] theorem State.set16_bc_e (s : State) (v : Word) : (s.set16 .bc v).e = s.e := rfl
@[simp] theorem State.set16_bc_h (s : State) (v : Word) : (s.set16 .bc v).h = s.h := rfl
@[simp] theorem State.set16_bc_l (s : State) (v : Word) : (s.set16 .bc v).l = s.l := rfl
@[simp] theorem State.set16_de_bc (s : State) (v : Word) : (s.set16 .de v).bc = s.bc := rfl
@[simp] theorem State.set16_de_hl (s : State) (v : Word) : (s.set16 .de v).hl = s.hl := rfl
@[simp] theorem State.set16_de_sp (s : State) (v : Word) : (s.set16 .de v).sp = s.sp := rfl
@[simp] theorem State.set16_de_b (s : State) (v : Word) : (s.set16 .de v).b = s.b := rfl
@[simp] theorem State.set16_de_c (s : State) (v : Word) : (s.set16 .de v).c = s.c := rfl
@[simp] theorem State.set16_de_d (s : State) (v : Word) : (s.set16 .de v).d = hiByte v := rfl
@[simp] theorem State.set16_de_e (s : State) (v : Word) : (s.set16 .de v).e = loByte v := rfl
@[simp] theorem State.set16_de_h (s : State) (v : Word) : (s.set16 .de v).h = s.h := rfl
@[simp] theorem State.set16_de_l (s : State) (v : Word) : (s.set16 .de v).l = s.l := rfl
@[simp] theorem State.set16_hl_bc (s : State) (v : Word) : (s.set16 .hl v).bc = s.bc := rfl
@[simp] theorem State.set16_hl_de (s : State) (v : Word) : (s.set16 .hl v).de = s.de := rfl
@[simp] theorem State.set16_hl_sp (s : State) (v : Word) : (s.set16 .hl v).sp = s.sp := rfl
@[simp] theorem State.set16_hl_b (s : State) (v : Word) : (s.set16 .hl v).b = s.b := rfl
@[simp] theorem State.set16_hl_c (s : State) (v : Word) : (s.set16 .hl v).c = s.c := rfl
@[simp] theorem State.set16_hl_d (s : State) (v : Word) : (s.set16 .hl v).d = s.d := rfl
@[simp] theorem State.set16_hl_e (s : State) (v : Word) : (s.set16 .hl v).e = s.e := rfl
@[simp] theorem State.set16_hl_h (s : State) (v : Word) : (s.set16 .hl v).h = hiByte v := rfl
@[simp] theorem State.set16_hl_l (s : State) (v : Word) : (s.set16 .hl v).l = loByte v := rfl
@[simp] theorem State.set16_sp_bc (s : State) (v : Word) : (s.set16 .sp v).bc = s.bc := rfl
@[simp] theorem State.set16_sp_de (s : State) (v : Word) : (s.set16 .sp v).de = s.de := rfl
@[simp] theorem State.set16_sp_hl (s : State) (v : Word) : (s.set16 .sp v).hl = s.hl := rfl
@[simp] theorem State.set16_sp_b (s : State) (v : Word) : (s.set16 .sp v).b = s.b := rfl
@[simp] theorem State.set16_sp_c (s : State) (v : Word) : (s.set16 .sp v).c = s.c := rfl
@[simp] theorem State.set16_sp_d (s : State) (v : Word) : (s.set16 .sp v).d = s.d := rfl
@[simp] theorem State.set16_sp_e (s : State) (v : Word) : (s.set16 .sp v).e = s.e := rfl
@[simp] theorem State.set16_sp_h (s : State) (v : Word) : (s.set16 .sp v).h = s.h := rfl
@[simp] theorem State.set16_sp_l (s : State) (v : Word) : (s.set16 .sp v).l = s.l := rfl
@[simp] theorem State.jump_pc (s : State) (w : Word) : (s.jump w).pc = w := rfl
@[simp] theorem State.jumpRel_pc (s : State) (v : Byte) : (s.jumpRel v).pc = s.pc + sext16 v := rfl
@[simp] theorem State.spend_cycles (s : State) (n : Nat) : (s.spend n).cycles = s.cycles + BitVec.ofNat 64 n := rfl
@[simp] theorem State.poke_mem (s : State) (w : Word) (v : Byte) : (s.poke w v).mem = s.mem.write w.toNat v := rfl
@[simp] theorem State.readPort_io (s : State) (w : Word) : (s.readPort w).io = s.io ++ [.input w (s.portValue w)] := rfl
@[simp] theorem State.writePort_io (s : State) (w : Word) (v : Byte) : (s.writePort w v).io = s.io ++ [.output w v] := rfl
@[simp] theorem State.report_diag (s : State) (g : DiagEvent) : (s.report g).diag = s.diag ++ [g] := rfl
@[simp] theorem State.advance_pc (s : State) (j : Instr) : (s.advance j).pc = s.pc + BitVec.ofNat 16 j.length := rfl
@[simp] theorem State.advance_r (s : State) (j : Instr) : (s.advance j).r = rInc s.r (opcodeFetches j) := rfl
@[simp] theorem State.writeFlags_draws (s : State) (g : Flags) (src : XySource) : (s.writeFlags g src).draws = s.draws + 2 := rfl

@[simp] theorem State.writeFlags_f_s (s : State) (g : Flags) (src : XySource) : (s.writeFlags g src).f.s = g.s := rfl
@[simp] theorem State.writeFlags_f_z (s : State) (g : Flags) (src : XySource) : (s.writeFlags g src).f.z = g.z := rfl
@[simp] theorem State.writeFlags_f_h (s : State) (g : Flags) (src : XySource) : (s.writeFlags g src).f.h = g.h := rfl
@[simp] theorem State.writeFlags_f_pv (s : State) (g : Flags) (src : XySource) : (s.writeFlags g src).f.pv = g.pv := rfl
@[simp] theorem State.writeFlags_f_n (s : State) (g : Flags) (src : XySource) : (s.writeFlags g src).f.n = g.n := rfl
@[simp] theorem State.writeFlags_f_c (s : State) (g : Flags) (src : XySource) : (s.writeFlags g src).f.c = g.c := rfl
@[simp] theorem State.writeFlags_f_y (s : State) (g : Flags) (src : XySource) :
    (s.writeFlags g src).f.y = (xyValue s.params.xyMode src s.f s.draws).1 := rfl
@[simp] theorem State.writeFlags_f_x (s : State) (g : Flags) (src : XySource) :
    (s.writeFlags g src).f.x = (xyValue s.params.xyMode src s.f s.draws).2 := rfl

/-! ### Reads after writes -/

@[simp] theorem State.get8_b (s : State) : s.get8 .b = s.b := rfl
@[simp] theorem State.get8_c (s : State) : s.get8 .c = s.c := rfl
@[simp] theorem State.get8_d (s : State) : s.get8 .d = s.d := rfl
@[simp] theorem State.get8_e (s : State) : s.get8 .e = s.e := rfl
@[simp] theorem State.get8_h (s : State) : s.get8 .h = s.h := rfl
@[simp] theorem State.get8_l (s : State) : s.get8 .l = s.l := rfl
@[simp] theorem State.get8_a (s : State) : s.get8 .a = s.a := rfl
@[simp] theorem State.get16_bc (s : State) : s.get16 .bc = s.bc := rfl
@[simp] theorem State.get16_de (s : State) : s.get16 .de = s.de := rfl
@[simp] theorem State.get16_hl (s : State) : s.get16 .hl = s.hl := rfl
@[simp] theorem State.get16_sp (s : State) : s.get16 .sp = s.sp := rfl


theorem joinBytes_toNat (hi lo : Byte) : (joinBytes hi lo).toNat = hi.toNat * 256 + lo.toNat := by
  have h : (joinBytes hi lo).toNat = hi.toNat <<< 8 ||| lo.toNat := BitVec.toNat_append hi lo
  rw [h, Nat.shiftLeft_eq, ← Nat.shiftLeft_eq, ← Nat.shiftLeft_add_eq_or_of_lt lo.isLt, Nat.shiftLeft_eq]

theorem hiByte_toNat (w : Word) : (hiByte w).toNat = w.toNat / 256 := by
  have := w.isLt
  simp only [hiByte, BitVec.extractLsb'_toNat, Nat.shiftRight_eq_div_pow]
  omega

theorem loByte_toNat (w : Word) : (loByte w).toNat = w.toNat % 256 := by
  simp only [loByte, BitVec.extractLsb'_toNat, Nat.shiftRight_eq_div_pow]
  omega

/-- The bytes of a joined word, and the word of its bytes. -/
@[simp] theorem hiByte_joinBytes (hi lo : Byte) : hiByte (joinBytes hi lo) = hi := by
  apply BitVec.eq_of_toNat_eq
  have := lo.isLt
  rw [hiByte_toNat, joinBytes_toNat]
  omega

@[simp] theorem loByte_joinBytes (hi lo : Byte) : loByte (joinBytes hi lo) = lo := by
  apply BitVec.eq_of_toNat_eq
  have := lo.isLt
  rw [loByte_toNat, joinBytes_toNat]
  omega

@[simp] theorem joinBytes_hiByte_loByte (w : Word) : joinBytes (hiByte w) (loByte w) = w := by
  apply BitVec.eq_of_toNat_eq
  rw [joinBytes_toNat, hiByte_toNat, loByte_toNat]
  omega

@[simp] theorem State.get8_set8_same (s : State) (r : Reg8) (v : Byte) : (s.set8 r v).get8 r = v := by cases r <;> rfl

theorem State.get8_set8_other (s : State) (r q : Reg8) (v : Byte) (h : q ≠ r) : (s.set8 r v).get8 q = s.get8 q := by
  cases r <;> cases q <;> first | rfl | exact absurd rfl h

@[simp] theorem State.get16_set16_same (s : State) (p : Pair) (v : Word) : (s.set16 p v).get16 p = v := by
  cases p <;> simp [State.set16, State.get16, State.bc, State.de, State.hl]

theorem State.get16_set16_other (s : State) (p q : Pair) (v : Word) (h : q ≠ p) : (s.set16 p v).get16 q = s.get16 q := by
  cases p <;> cases q <;> first | rfl | exact absurd rfl h

@[simp] theorem State.idx_setIdx_same (s : State) (ii : Idx) (v : Word) : (s.setIdx ii v).idx ii = v := by cases ii <;> rfl

theorem State.idx_setIdx_other (s : State) (ii jj : Idx) (v : Word) (h : jj ≠ ii) : (s.setIdx ii v).idx jj = s.idx jj := by
  cases ii <;> cases jj <;> first | rfl | exact absurd rfl h

@[simp] theorem State.idxHi_setIdxHi (s : State) (ii : Idx) (v : Byte) : (s.setIdxHi ii v).idxHi ii = v := by
  simp [State.setIdxHi, State.idxHi]

@[simp] theorem State.idxLo_setIdxHi (s : State) (ii : Idx) (v : Byte) : (s.setIdxHi ii v).idxLo ii = s.idxLo ii := by
  simp [State.setIdxHi, State.idxLo]

@[simp] theorem State.idxLo_setIdxLo (s : State) (ii : Idx) (v : Byte) : (s.setIdxLo ii v).idxLo ii = v := by
  simp [State.setIdxLo, State.idxLo]

@[simp] theorem State.idxHi_setIdxLo (s : State) (ii : Idx) (v : Byte) : (s.setIdxLo ii v).idxHi ii = s.idxHi ii := by
  simp [State.setIdxLo, State.idxHi]

@[simp] theorem State.set16_bc_self (s : State) (v : Word) : (s.set16 .bc v).bc = v := joinBytes_hiByte_loByte v
@[simp] theorem State.set16_de_self (s : State) (v : Word) : (s.set16 .de v).de = v := joinBytes_hiByte_loByte v
@[simp] theorem State.set16_hl_self (s : State) (v : Word) : (s.set16 .hl v).hl = v := joinBytes_hiByte_loByte v

@[simp] theorem State.setIdxHi_idxHi (s : State) (ii : Idx) : s.setIdxHi ii (s.idxHi ii) = s := by
  cases ii <;> simp [State.setIdxHi, State.idxHi, State.idxLo, State.setIdx, State.idx]

@[simp] theorem State.setIdxLo_idxLo (s : State) (ii : Idx) : s.setIdxLo ii (s.idxLo ii) = s := by
  cases ii <;> simp [State.setIdxLo, State.idxHi, State.idxLo, State.setIdx, State.idx]

end Sys2Proof.Machine
end

