-- ==== Sys2Proof/Laws/Ops.lean ====
section
/-! SUPPORT. What each shared operation can do: `…_ok` when memory does not fail, `…_cases` always (it stops in a memory fault, which
needs `MEM_FAULT`, or it goes on), and the bytes memory holds after a store. -/

namespace Sys2Proof.Machine

/-! ### Going on -/

@[simp] theorem andThen_of_next (s : State) (k : State → Result) : andThen (.next s) k = k s := rfl
@[simp] theorem andThen_of_fault (r : Fault) (k : State → Result) : andThen (.fault r) k = .fault r := rfl
@[simp] theorem andThen_of_refused (r : Refusal) (k : State → Result) : andThen (.refused r) k = .refused r := rfl

theorem andThen_next_iff (o : Result) (k : State → Result) (t : State) :
    andThen o k = .next t ↔ ∃ s, o = .next s ∧ k s = .next t := by
  cases o <;> simp [andThen]

/-- An answer stopped in a memory fault, which only `MEM_FAULT` allows, the event last in the diagnostic output (20_memory.md R68,
60_exceptions.md R431, R432). -/
def Stops (s : State) (o : Result) : Prop :=
  s.params.memFault = true ∧ ∃ a u, o = .fault (.memFault a (State.report u (.memFault a)))

theorem not_stops_of_ok {s : State} {o : Result} (h : s.params.memFault = false) : ¬ Stops s o := by
  simp [Stops, h]

theorem Stops.not_next {s t : State} {o : Result} (h : Stops s o) : o ≠ .next t := by
  obtain ⟨-, a, u, rfl⟩ := h
  simp

/-! ### Bytes of memory -/

@[simp] theorem State.peek_poke_same (s : State) (a : Word) (v : Byte) : (s.poke a v).peek a = v := by
  simp [State.peek, State.poke]

theorem State.peek_poke_other (s : State) (a b : Word) (v : Byte) (h : b ≠ a) : (s.poke a v).peek b = s.peek b := by
  have hn : b.toNat ≠ a.toNat := fun e => h (BitVec.eq_of_toNat_eq e)
  simp [State.peek, State.poke, Memory.read_write_other _ _ _ _ hn]

theorem State.peek_of_mem {s t : State} (h : t.mem = s.mem) (a : Word) : t.peek a = s.peek a := by
  simp [State.peek, h]

/-- A store keeps memory canonical. -/
theorem State.poke_wf (s : State) (a : Word) (v : Byte) (h : s.mem.wf = true) : (s.poke a v).mem.wf = true :=
  Memory.wf_write _ _ _ (by have := a.isLt; omega) h

theorem State.loadProgram_wf (vs : List Byte) : ∀ (s : State) (a : Word), s.mem.wf = true → (s.loadProgram vs a).mem.wf = true := by
  induction vs with
  | nil => intro s a h; exact h
  | cons v vs ih => intro s a h; exact ih _ _ (State.poke_wf s a v h)

theorem State.hostWrite_wf (s : State) (a : Word) (v : Byte) (h : s.mem.wf = true) : (s.hostWrite a v).mem.wf = true :=
  State.poke_wf s a v h

theorem State.withFetchWord_wf (s : State) (nbits w : Nat) (h : s.mem.wf = true) : (s.withFetchWord nbits w).mem.wf = true := by
  simp only [State.withFetchWord, State.placeWord]
  exact State.poke_wf _ _ _ (State.poke_wf _ _ _ (State.poke_wf _ _ _ (State.poke_wf _ _ _ h)))

theorem State.hostReset_wf (s : State) (h : s.mem.wf = true) : s.hostReset.mem.wf = true := h

/-- The memory of the state after reset is canonical. -/
theorem State.reset_wf : State.reset.mem.wf = true := rfl

/-! ### Accesses -/

/-- The state with another index of the next free draw: all that an access changes. -/
def State.drawn (s : State) (n : Nat) : State := { s with draws := n }

@[simp] theorem State.drawn_self (s : State) : s.drawn s.draws = s := rfl
@[simp] theorem State.drawn_drawn (s : State) (m n : Nat) : (s.drawn m).drawn n = s.drawn n := rfl
@[simp] theorem State.drawn_params (s : State) (n : Nat) : (s.drawn n).params = s.params := rfl
@[simp] theorem State.drawn_mem (s : State) (n : Nat) : (s.drawn n).mem = s.mem := rfl
@[simp] theorem State.drawn_cycles (s : State) (n : Nat) : (s.drawn n).cycles = s.cycles := rfl
@[simp] theorem State.drawn_peek (s : State) (n : Nat) (a : Word) : (s.drawn n).peek a = s.peek a := rfl
@[simp] theorem State.drawn_poke (s : State) (n : Nat) (a : Word) (v : Byte) : (s.poke a v).drawn n = (s.drawn n).poke a v := rfl

theorem access_ok {a : Word} {s : State} (h : s.params.memFault = false) : access a s = .next s := by
  simp [access, h]

theorem access_cases (a : Word) (s : State) : Stops s (access a s) ∨ ∃ n, access a s = .next (s.drawn n) := by
  unfold access
  split
  · next h =>
    split
    · exact .inl ⟨h, a, s, rfl⟩
    · exact .inr ⟨s.draws + 1, rfl⟩
  · exact .inr ⟨s.draws, rfl⟩

theorem readByte_ok {a : Word} {s : State} {k : Byte → State → Result} (h : s.params.memFault = false) :
    readByte a s k = k (s.peek a) s := by
  simp [readByte, access_ok h]

theorem readByte_cases (a : Word) (s : State) (k : Byte → State → Result) :
    Stops s (readByte a s k) ∨ ∃ n, readByte a s k = k (s.peek a) (s.drawn n) := by
  obtain ⟨h, b, u, e⟩ | ⟨n, e⟩ := access_cases a s
  · exact .inl ⟨h, b, u, by simp [readByte, e]⟩
  · exact .inr ⟨n, by simp [readByte, e]⟩

theorem writeByte_ok {a : Word} {v : Byte} {s : State} {k : State → Result} (h : s.params.memFault = false) :
    writeByte a v s k = k (s.poke a v) := by
  simp [writeByte, access_ok h]

theorem writeByte_cases (a : Word) (v : Byte) (s : State) (k : State → Result) :
    Stops s (writeByte a v s k) ∨ ∃ n, writeByte a v s k = k ((s.drawn n).poke a v) := by
  obtain ⟨h, b, u, e⟩ | ⟨n, e⟩ := access_cases a s
  · exact .inl ⟨h, b, u, by simp [writeByte, e]⟩
  · exact .inr ⟨n, by simp [writeByte, e]⟩

/-- A word stored at an address, low byte first (R64). -/
def State.pokeWord (s : State) (a : Word) (v : Word) : State := (s.poke a (loByte v)).poke (a + 1) (hiByte v)

@[simp] theorem State.drawn_peekWord (s : State) (n : Nat) (a : Word) : (s.drawn n).peekWord a = s.peekWord a := rfl
@[simp] theorem State.drawn_pokeWord (s : State) (n : Nat) (a v : Word) : (s.pokeWord a v).drawn n = (s.drawn n).pokeWord a v := rfl
@[simp] theorem State.pokeWord_params (s : State) (a v : Word) : (s.pokeWord a v).params = s.params := rfl

theorem State.pokeWord_wf (s : State) (a v : Word) (h : s.mem.wf = true) : (s.pokeWord a v).mem.wf = true :=
  State.poke_wf _ _ _ (State.poke_wf _ _ _ h)

theorem word_add_one_ne (a : Word) : a + 1 ≠ a := by
  intro h
  have h' := congrArg (· - a) h
  simp only [BitVec.sub_self, BitVec.add_comm a 1, BitVec.add_sub_cancel] at h'
  exact absurd h' (by decide)

/-- A stored word is read back (20_memory.md R64). -/
@[simp] theorem State.peekWord_pokeWord (s : State) (a v : Word) : (s.pokeWord a v).peekWord a = v := by
  rw [State.peekWord, State.pokeWord, State.peek_poke_same, State.peek_poke_other _ _ _ _ (word_add_one_ne a).symm,
    State.peek_poke_same, joinBytes_hiByte_loByte]

theorem State.peek_pokeWord_other (s : State) (a v b : Word) (h0 : b ≠ a) (h1 : b ≠ a + 1) : (s.pokeWord a v).peek b = s.peek b := by
  rw [State.pokeWord, State.peek_poke_other _ _ _ _ h1, State.peek_poke_other _ _ _ _ h0]

theorem readWord_ok {a : Word} {s : State} {k : Word → State → Result} (h : s.params.memFault = false) :
    readWord a s k = k (s.peekWord a) s := by
  simp [readWord, readByte_ok h, State.peekWord]

theorem readWord_cases (a : Word) (s : State) (k : Word → State → Result) :
    Stops s (readWord a s k) ∨ ∃ n, readWord a s k = k (s.peekWord a) (s.drawn n) := by
  obtain h | ⟨m, e⟩ := readByte_cases a s fun lo s => readByte (a + 1) s fun hi s => k (joinBytes hi lo) s
  · exact .inl h
  · obtain h | ⟨n, e'⟩ := readByte_cases (a + 1) (s.drawn m) fun hi t => k (joinBytes hi (s.peek a)) t
    · exact .inl ⟨h.1, by rw [readWord, e]; exact h.2⟩
    · exact .inr ⟨n, by rw [readWord, e, e']; rfl⟩

theorem writeWord_ok {a v : Word} {s : State} {k : State → Result} (h : s.params.memFault = false) :
    writeWord a v s k = k (s.pokeWord a v) := by
  rw [writeWord, writeByte_ok h, writeByte_ok (s := s.poke a (loByte v)) h, State.pokeWord]

theorem writeWord_cases (a v : Word) (s : State) (k : State → Result) :
    Stops s (writeWord a v s k) ∨ ∃ n, writeWord a v s k = k ((s.drawn n).pokeWord a v) := by
  obtain h | ⟨m, e⟩ := writeByte_cases a (loByte v) s fun s => writeByte (a + 1) (hiByte v) s k
  · exact .inl h
  · obtain h | ⟨n, e'⟩ := writeByte_cases (a + 1) (hiByte v) ((s.drawn m).poke a (loByte v)) k
    · exact .inl ⟨h.1, by rw [writeWord, e]; exact h.2⟩
    · exact .inr ⟨n, by rw [writeWord, e, e']; rfl⟩

/-! ### The stack (40_step_and_microops.md R145, R146) -/

/-- The state after `Push16(v)`. -/
def State.pushed (s : State) (v : Word) : State := { s with sp := s.sp - 2 }.pokeWord (s.sp - 2) v

/-- The state after `Pop16()`. -/
def State.popped (s : State) : State := { s with sp := s.sp + 2 }

theorem State.pushed_wf (s : State) (v : Word) (h : s.mem.wf = true) : (s.pushed v).mem.wf = true :=
  State.pokeWord_wf _ _ _ h

@[simp] theorem State.pushed_sp (s : State) (v : Word) : (s.pushed v).sp = s.sp - 2 := rfl

/-- What a push stores is what a pop reads (R146). -/
theorem State.peekWord_pushed (s : State) (v : Word) : (s.pushed v).peekWord (s.pushed v).sp = v :=
  State.peekWord_pokeWord { s with sp := s.sp - 2 } (s.sp - 2) v

theorem push16_ok {v : Word} {s : State} {k : State → Result} (h : s.params.memFault = false) :
    push16 v s k = k (s.pushed v) := by
  rw [push16, writeWord_ok (s := { s with sp := s.sp - 2 }) h]; rfl

theorem push16_cases (v : Word) (s : State) (k : State → Result) :
    Stops s (push16 v s k) ∨ ∃ n, push16 v s k = k ((s.drawn n).pushed v) := by
  obtain h | ⟨n, e⟩ := writeWord_cases (s.sp - 2) v { s with sp := s.sp - 2 } k
  · exact .inl h
  · exact .inr ⟨n, e⟩

theorem pop16_ok {s : State} {k : Word → State → Result} (h : s.params.memFault = false) :
    pop16 s k = k (s.peekWord s.sp) s.popped := by
  rw [pop16, readWord_ok h]; rfl

theorem pop16_cases (s : State) (k : Word → State → Result) :
    Stops s (pop16 s k) ∨ ∃ n, pop16 s k = k (s.peekWord s.sp) (s.drawn n).popped := by
  obtain h | ⟨n, e⟩ := readWord_cases s.sp s fun v s => k v { s with sp := s.sp + 2 }
  · exact .inl h
  · exact .inr ⟨n, e⟩

theorem callTo_ok {a : Word} {s : State} {k : State → Result} (h : s.params.memFault = false) :
    callTo a s k = k ((s.pushed s.pc).jump a) := by
  rw [callTo, push16_ok h]

theorem callTo_cases (a : Word) (s : State) (k : State → Result) :
    Stops s (callTo a s k) ∨ ∃ n, callTo a s k = k (((s.drawn n).pushed s.pc).jump a) :=
  push16_cases s.pc s fun s => k (s.jump a)

theorem popPc_ok {s : State} {k : State → Result} (h : s.params.memFault = false) :
    popPc s k = k (s.popped.jump (s.peekWord s.sp)) := by
  rw [popPc, pop16_ok h]

theorem popPc_cases (s : State) (k : State → Result) :
    Stops s (popPc s k) ∨ ∃ n, popPc s k = k ((s.drawn n).popped.jump (s.peekWord s.sp)) :=
  pop16_cases s fun v s => k (s.jump v)

theorem returnFromInterrupt_ok {s : State} {k : State → Result} (h : s.params.memFault = false) :
    returnFromInterrupt s k = k { s.popped with pc := s.peekWord s.sp, iff1 := s.iff2 } := by
  rw [returnFromInterrupt, pop16_ok h]; rfl

theorem returnFromInterrupt_cases (s : State) (k : State → Result) :
    Stops s (returnFromInterrupt s k) ∨
      ∃ n, returnFromInterrupt s k = k { (s.drawn n).popped with pc := s.peekWord s.sp, iff1 := s.iff2 } :=
  pop16_cases s fun v s => k { s with pc := v, iff1 := s.iff2 }

/-! ### Read-modify-write, bits and digits (45_rotate_bit.md) -/

theorem rotMem_ok {op : RotOp} {a : Word} {s : State} {k : Byte → State → Result} (h : s.params.memFault = false) :
    rotMem op a s k = k (rot op (s.peek a) s.f.c) ((s.rotFlags op (s.peek a)).poke a (rot op (s.peek a) s.f.c)) := by
  rw [rotMem, readByte_ok h, writeByte_ok (s := s.rotFlags op (s.peek a)) h]

theorem rotMem_cases (op : RotOp) (a : Word) (s : State) (k : Byte → State → Result) :
    Stops s (rotMem op a s k) ∨ ∃ m n, rotMem op a s k =
      k (rot op (s.peek a) s.f.c) ((((s.drawn m).rotFlags op (s.peek a)).drawn n).poke a (rot op (s.peek a) s.f.c)) := by
  obtain h | ⟨m, e⟩ := readByte_cases a s fun v s => writeByte a (rot op v s.f.c) (s.rotFlags op v) fun t => k (rot op v s.f.c) t
  · exact .inl h
  · obtain h | ⟨n, e'⟩ := writeByte_cases a (rot op (s.peek a) s.f.c) ((s.drawn m).rotFlags op (s.peek a))
      fun t => k (rot op (s.peek a) s.f.c) t
    · exact .inl ⟨h.1, by rw [rotMem, e]; exact h.2⟩
    · exact .inr ⟨m, n, by rw [rotMem, e]; exact e'⟩

theorem modifyByte_ok {g : Byte → Byte} {a : Word} {s : State} {k : Byte → State → Result} (h : s.params.memFault = false) :
    modifyByte g a s k = k (g (s.peek a)) (s.poke a (g (s.peek a))) := by
  rw [modifyByte, readByte_ok h, writeByte_ok h]

theorem modifyByte_cases (g : Byte → Byte) (a : Word) (s : State) (k : Byte → State → Result) :
    Stops s (modifyByte g a s k) ∨ ∃ n, modifyByte g a s k = k (g (s.peek a)) ((s.drawn n).poke a (g (s.peek a))) := by
  obtain h | ⟨m, e⟩ := readByte_cases a s fun v s => writeByte a (g v) s fun s => k (g v) s
  · exact .inl h
  · obtain h | ⟨n, e'⟩ := writeByte_cases a (g (s.peek a)) (s.drawn m) fun s' => k (g (s.peek a)) s'
    · exact .inl ⟨h.1, by rw [modifyByte, e]; exact h.2⟩
    · exact .inr ⟨n, by rw [modifyByte, e]; exact e'⟩

theorem bitMemIid_ok {a : Word} {n : BitVec 3} {s : State} {k : State → Result} (h : s.params.memFault = false) :
    bitMemIid a n s k = k (s.bitTest n (s.peek a) (.ofByte (hiByte a))) := by
  rw [bitMemIid, readByte_ok h]

theorem bitMemIid_cases (a : Word) (b : BitVec 3) (s : State) (k : State → Result) :
    Stops s (bitMemIid a b s k) ∨ ∃ n, bitMemIid a b s k = k ((s.drawn n).bitTest b (s.peek a) (.ofByte (hiByte a))) :=
  readByte_cases a s fun v s => k (s.bitTest b v (.ofByte (hiByte a)))

theorem rotateDigitLeft_ok {s : State} {k : State → Result} (h : s.params.memFault = false) :
    rotateDigitLeft s k =
      k ((s.poke s.hl ((s.peek s.hl <<< 4) ||| (s.a &&& 0x0F))).digitA ((s.a &&& 0xF0) ||| (s.peek s.hl >>> 4))) := by
  rw [rotateDigitLeft, readByte_ok h, writeByte_ok h]; rfl

theorem rotateDigitLeft_cases (s : State) (k : State → Result) :
    Stops s (rotateDigitLeft s k) ∨ ∃ n, rotateDigitLeft s k =
      k (((s.drawn n).poke s.hl ((s.peek s.hl <<< 4) ||| (s.a &&& 0x0F))).digitA ((s.a &&& 0xF0) ||| (s.peek s.hl >>> 4))) := by
  unfold rotateDigitLeft
  generalize hk : (fun (t : Byte) (s : State) =>
    writeByte s.hl ((t <<< 4) ||| (s.a &&& 0x0F)) s fun s => k (s.digitA ((s.a &&& 0xF0) ||| (t >>> 4)))) = f
  obtain h | ⟨m, e⟩ := readByte_cases s.hl s f
  · exact .inl h
  · rw [e]
    subst hk
    obtain h | ⟨n, e'⟩ := writeByte_cases s.hl ((s.peek s.hl <<< 4) ||| (s.a &&& 0x0F)) (s.drawn m)
      fun u => k (u.digitA ((u.a &&& 0xF0) ||| (s.peek s.hl >>> 4)))
    · exact .inl h
    · exact .inr ⟨n, e'⟩

theorem rotateDigitRight_ok {s : State} {k : State → Result} (h : s.params.memFault = false) :
    rotateDigitRight s k =
      k ((s.poke s.hl ((s.a <<< 4) ||| (s.peek s.hl >>> 4))).digitA ((s.a &&& 0xF0) ||| (s.peek s.hl &&& 0x0F))) := by
  rw [rotateDigitRight, readByte_ok h, writeByte_ok h]; rfl

theorem rotateDigitRight_cases (s : State) (k : State → Result) :
    Stops s (rotateDigitRight s k) ∨ ∃ n, rotateDigitRight s k =
      k (((s.drawn n).poke s.hl ((s.a <<< 4) ||| (s.peek s.hl >>> 4))).digitA ((s.a &&& 0xF0) ||| (s.peek s.hl &&& 0x0F))) := by
  unfold rotateDigitRight
  generalize hk : (fun (t : Byte) (s : State) =>
    writeByte s.hl ((s.a <<< 4) ||| (t >>> 4)) s fun s => k (s.digitA ((s.a &&& 0xF0) ||| (t &&& 0x0F)))) = f
  obtain h | ⟨m, e⟩ := readByte_cases s.hl s f
  · exact .inl h
  · rw [e]
    subst hk
    obtain h | ⟨n, e'⟩ := writeByte_cases s.hl ((s.a <<< 4) ||| (s.peek s.hl >>> 4)) (s.drawn m)
      fun u => k (u.digitA ((u.a &&& 0xF0) ||| (s.peek s.hl &&& 0x0F)))
    · exact .inl h
    · exact .inr ⟨n, e'⟩

/-! ### Block instructions -/

theorem moveBlock_ok {dir : Direction} {s : State} {k : State → Result} (h : s.params.memFault = false) :
    moveBlock dir s k = k ((s.poke s.de (s.peek s.hl)).moved dir (s.peek s.hl)) := by
  rw [moveBlock, readByte_ok h, writeByte_ok h]

theorem moveBlock_cases (dir : Direction) (s : State) (k : State → Result) :
    Stops s (moveBlock dir s k) ∨ ∃ n, moveBlock dir s k = k (((s.drawn n).poke s.de (s.peek s.hl)).moved dir (s.peek s.hl)) := by
  unfold moveBlock
  obtain h | ⟨m, e⟩ := readByte_cases s.hl s fun v s => writeByte s.de v s fun s => k (s.moved dir v)
  · exact .inl h
  · rw [e]
    exact writeByte_cases s.de (s.peek s.hl) (s.drawn m) fun u => k (u.moved dir (s.peek s.hl))

theorem compareBlock_ok {dir : Direction} {s : State} {k : State → Result} (h : s.params.memFault = false) :
    compareBlock dir s k = k (s.compared dir (s.peek s.hl)) := by
  rw [compareBlock, readByte_ok h]

theorem compareBlock_cases (dir : Direction) (s : State) (k : State → Result) :
    Stops s (compareBlock dir s k) ∨ ∃ n, compareBlock dir s k = k ((s.drawn n).compared dir (s.peek s.hl)) :=
  readByte_cases s.hl s fun v s => k (s.compared dir v)

/-- The state after one input iteration (47_cpu_control_io.md R417). -/
def State.inputDone (s : State) (dir : Direction) : State :=
  (((s.readPort s.bc).poke s.hl (s.portValue s.bc)).set8 .b (s.b - 1)).set16 .hl (dir.move s.hl) |>.blockIoDone

theorem inputBlock_ok {dir : Direction} {s : State} {k : State → Result} (h : s.params.memFault = false) :
    inputBlock dir s k = k (s.inputDone dir) := by
  rw [inputBlock, writeByte_ok (s := s.readPort s.bc) h]; rfl

theorem inputBlock_cases (dir : Direction) (s : State) (k : State → Result) :
    Stops s (inputBlock dir s k) ∨ ∃ n, inputBlock dir s k = k ((s.drawn n).inputDone dir) :=
  writeByte_cases s.hl (s.portValue s.bc) (s.readPort s.bc)
    fun s => k ((s.set8 .b (s.b - 1)).set16 .hl (dir.move s.hl)).blockIoDone

/-- The state after one output iteration of the byte `v` (47_cpu_control_io.md R421). -/
def State.outputDone (s : State) (dir : Direction) (v : Byte) : State :=
  (((s.set8 .b (s.b - 1)).writePort (joinBytes (s.b - 1) s.c) v).set16 .hl (dir.move s.hl)).blockIoDone

theorem outputBlock_ok {dir : Direction} {s : State} {k : State → Result} (h : s.params.memFault = false) :
    outputBlock dir s k = k (s.outputDone dir (s.peek s.hl)) := by
  rw [outputBlock, readByte_ok h]; rfl

theorem outputBlock_cases (dir : Direction) (s : State) (k : State → Result) :
    Stops s (outputBlock dir s k) ∨ ∃ n, outputBlock dir s k = k ((s.drawn n).outputDone dir (s.peek s.hl)) :=
  readByte_cases s.hl s fun v s => k (s.outputDone dir v)

theorem repeatWhile_next (i : Instr) (again : Bool) (s : State) :
    repeatWhile i again s = .next (if again then (s.jump (s.pc - 2)).spend (cost s.params.costs i true)
      else s.spend (cost s.params.costs i false)) := by
  cases again <;> rfl

theorem djnz_next (i : Instr) (e : Byte) (s : State) :
    djnz i e s = .next (if s.b - 1 != 0 then ((s.set8 .b (s.b - 1)).jumpRel e).spend (cost s.params.costs i true)
      else (s.set8 .b (s.b - 1)).spend (cost s.params.costs i false)) := by
  have hb : (s.set8 .b (s.b - 1)).b = s.b - 1 := rfl
  simp only [djnz, hb]
  split <;> rfl

/-! ### Fetch -/

theorem accessBytes_ok {s : State} {k : State → Result} (h : s.params.memFault = false) :
    ∀ (n : Nat) (a : Word), accessBytes n a s k = k s
  | 0, _ => rfl
  | n + 1, a => by rw [accessBytes, access_ok h, andThen_of_next, accessBytes_ok h n (a + 1)]

theorem accessBytes_cases (k : State → Result) : ∀ (n : Nat) (a : Word) (s : State),
    Stops s (accessBytes n a s k) ∨ ∃ m, accessBytes n a s k = k (s.drawn m)
  | 0, _, s => .inr ⟨s.draws, rfl⟩
  | n + 1, a, s => by
    obtain ⟨h, b, u, e⟩ | ⟨m, e⟩ := access_cases a s
    · exact .inl ⟨h, b, u, by simp [accessBytes, e]⟩
    · rw [accessBytes, e, andThen_of_next]
      exact accessBytes_cases k n (a + 1) (s.drawn m)

theorem fetch_ok {s : State} {k : Instr → State → Result} (h : s.params.memFault = false) :
    fetch s k = k s.fetched (s.advance s.fetched) := by
  rw [fetch, accessBytes_ok h]

theorem fetch_cases (s : State) (k : Instr → State → Result) :
    Stops s (fetch s k) ∨ ∃ n, fetch s k = k s.fetched ((s.drawn n).advance s.fetched) :=
  accessBytes_cases (fun t => k s.fetched (t.advance s.fetched)) s.fetched.length s.pc s

/-! ### Taking an interrupt (60_exceptions.md R439 to R446) -/

/-- The state after NMI acceptance. -/
def State.nmiTaken (s : State) : State :=
  { (({ s with halted := false, iff2 := s.iff1, iff1 := false }.pushed s.pc).jump 0x0066).spend (nmiCost s.params.costs) with
    nmiPending := false }

theorem acceptNmi_ok {s : State} (h : s.params.memFault = false) : acceptNmi s = .next s.nmiTaken := by
  rw [acceptNmi, takeInterrupt, push16_ok (s := { s with halted := false, iff2 := s.iff1, iff1 := false }) h]; rfl

theorem acceptNmi_cases (s : State) : Stops s (acceptNmi s) ∨ ∃ n, acceptNmi s = .next (s.drawn n).nmiTaken :=
  push16_cases s.pc { s with halted := false, iff2 := s.iff1, iff1 := false } fun u =>
    .next { (u.jump 0x0066).spend (nmiCost s.params.costs) with nmiPending := false }

/-- The state a maskable acceptance dispatches from (R442). -/
def State.intEntered (s : State) : State := { s with halted := false, iff1 := false }

/-- The state after a maskable acceptance that loads PC from `a` at a cost. -/
def State.intTaken (s : State) (a : Word) (price : Nat) : State :=
  { ((s.intEntered.pushed s.pc).jump a).spend price with intPending := false }

/-- The state after a maskable acceptance with IM outside 0 to 2 (R446). -/
def State.intInvalid (s : State) : State :=
  { s.intEntered.report (.invalidInterruptMode s.im) with intPending := false }

/-- The state after a maskable acceptance; in mode 2 the table entry is read after the push (R444). -/
def State.intAccept (s : State) : State :=
  match s.im.toNat with
  | 0 => s.intTaken 0x0038 (mode1Cost s.params.costs)
  | 1 => s.intTaken 0x0038 (mode1Cost s.params.costs)
  | 2 => s.intTaken ((s.pushed s.pc).peekWord s.vectorEntry) (mode2Cost s.params.costs)
  | _ => s.intInvalid

theorem acceptInt_cases (s : State) : Stops s (acceptInt s) ∨ ∃ n, acceptInt s = .next (s.drawn n).intAccept := by
  have fixed : Stops s (takeInterrupt (mode1Cost s.params.costs) (fixedTarget 0x0038) s.intEntered
      fun s => .next { s with intPending := false }) ∨
      ∃ n, takeInterrupt (mode1Cost s.params.costs) (fixedTarget 0x0038) s.intEntered (fun s => .next { s with intPending := false }) =
        .next ((s.drawn n).intTaken 0x0038 (mode1Cost s.params.costs)) :=
    push16_cases s.pc s.intEntered fun u => .next { (u.jump 0x0038).spend (mode1Cost s.params.costs) with intPending := false }
  have vectored : Stops s (takeInterrupt (mode2Cost s.params.costs) vectorTarget s.intEntered
      fun s => .next { s with intPending := false }) ∨
      ∃ n, takeInterrupt (mode2Cost s.params.costs) vectorTarget s.intEntered (fun s => .next { s with intPending := false }) =
        .next ((s.drawn n).intTaken ((s.pushed s.pc).peekWord s.vectorEntry) (mode2Cost s.params.costs)) := by
    obtain h | ⟨m, e⟩ := push16_cases s.pc s.intEntered fun u =>
      vectorTarget u fun a u => .next { (u.jump a).spend (mode2Cost s.params.costs) with intPending := false }
    · exact .inl h
    · obtain h | ⟨n, e'⟩ := readWord_cases s.vectorEntry ((s.intEntered.drawn m).pushed s.pc) fun a u =>
        (.next { (u.jump a).spend (mode2Cost s.params.costs) with intPending := false } : Result)
      · exact .inl ⟨h.1, by
          obtain ⟨a, u, h⟩ := h.2
          exact ⟨a, u, e.trans h⟩⟩
      · exact .inr ⟨n, e.trans e'⟩
  unfold acceptInt
  have him : (s.drawn 0).im = s.im := rfl
  rcases hm : s.im.toNat with _ | _ | _ | m
  · simp only [State.intAccept, State.drawn, hm]; exact fixed
  · simp only [State.intAccept, State.drawn, hm]; exact fixed
  · simp only [State.intAccept, State.drawn, hm]; exact vectored
  · refine .inr ⟨s.draws, ?_⟩
    simp only [State.intAccept, State.drawn, hm]
    rfl

theorem acceptInt_ok {s : State} (h : s.params.memFault = false) : acceptInt s = .next s.intAccept := by
  unfold acceptInt
  rcases hm : s.im.toNat with _ | _ | _ | m
  · simp only [State.intAccept, hm, takeInterrupt]
    rw [push16_ok (s := { s with halted := false, iff1 := false }) h]; rfl
  · simp only [State.intAccept, hm, takeInterrupt]
    rw [push16_ok (s := { s with halted := false, iff1 := false }) h]; rfl
  · simp only [State.intAccept, hm, takeInterrupt]
    rw [push16_ok (s := { s with halted := false, iff1 := false }) h, vectorTarget,
      readWord_ok (s := State.pushed { s with halted := false, iff1 := false } s.pc) h]; rfl
  · simp only [State.intAccept, hm]; rfl

/-! ### The step -/

/-- What the check at the end of a step does when memory does not fail (60_exceptions.md R434). -/
def State.checked (s : State) (wasHalted : Bool) : State :=
  if s.intBlock = .afterPrefix then s
  else if s.nmiPending then s.nmiTaken
  else if s.intAccepted then s.intAccept
  else if wasHalted then s.spend (haltCost s.params.costs)
  else s

theorem interruptCheck_ok {s : State} (wasHalted : Bool) (h : s.params.memFault = false) :
    interruptCheck wasHalted s = .next (s.checked wasHalted) := by
  unfold interruptCheck State.checked
  split
  · rfl
  split
  · exact acceptNmi_ok h
  split
  · exact acceptInt_ok h
  split <;> rfl

theorem interruptCheck_cases (wasHalted : Bool) (s : State) :
    Stops s (interruptCheck wasHalted s) ∨ ∃ n, interruptCheck wasHalted s = .next ((s.drawn n).checked wasHalted) := by
  by_cases h1 : s.intBlock = .afterPrefix
  · exact .inr ⟨s.draws, by simp [interruptCheck, State.checked, h1]⟩
  by_cases h2 : s.nmiPending = true
  · have e : interruptCheck wasHalted s = acceptNmi s := by simp [interruptCheck, h1, h2]
    obtain h | ⟨n, e'⟩ := acceptNmi_cases s
    · exact .inl (e ▸ h)
    · refine .inr ⟨n, ?_⟩
      rw [e, e', State.checked, if_neg (by exact h1), if_pos (by exact h2)]
  by_cases h3 : s.intAccepted = true
  · have e : interruptCheck wasHalted s = acceptInt s := by simp [interruptCheck, h1, h2, h3]
    obtain h | ⟨n, e'⟩ := acceptInt_cases s
    · exact .inl (e ▸ h)
    · refine .inr ⟨n, ?_⟩
      rw [e, e', State.checked, if_neg (by exact h1), if_neg (by exact h2), if_pos (by exact h3)]
  · refine .inr ⟨s.draws, ?_⟩
    rw [State.drawn_self, interruptCheck, State.checked, if_neg h1, if_neg h2, if_neg h3, if_neg h1, if_neg h2, if_neg h3]
    split <;> rfl

theorem step_halted (s : State) (h : s.halted = true) : step s = interruptCheck true { s with intBlock := .none } := by
  rw [step, if_pos h]

theorem step_running (s : State) (h : s.halted = false) :
    step s = fetch { s with intBlock := .none } fun i t => andThen (exec i t) (interruptCheck false) := by
  simp [step, h]

end Sys2Proof.Machine
end

