-- ==== Sys2Proof/Laws/Frames.lean ====
section
/-! SUPPORT. Frames: each update of the state keeps a frame that allows it, so that an instruction's frame is the chain of its
updates. -/

namespace Sys2Proof.Machine

/-- Nothing changed. -/
theorem State.sameBut.refl (w : Touch) (s : State) : s.sameBut w s :=
  ⟨fun _ _ => rfl, fun _ _ => rfl, fun _ => rfl, fun _ => rfl, fun _ => rfl, fun _ => ⟨rfl, rfl⟩,
    fun _ => ⟨rfl, rfl, rfl, rfl, rfl, rfl⟩, fun _ => rfl, fun _ => rfl, fun _ => rfl, fun _ => rfl, fun _ => rfl, fun _ => rfl,
    fun _ => rfl, fun _ => rfl, fun _ => rfl, rfl, rfl, rfl, fun _ _ => rfl⟩

theorem State.sameBut.spend {w : Touch} {s t : State} (h : s.sameBut w t) (n : Nat) :
    s.sameBut w (t.spend n) := by
  obtain ⟨h1, h2, h3, h4, h5, h6, h7, h8, h9, h10, h11, h12, h13, h14, h15, h16, h17, h18, h19, h20⟩ := h
  exact ⟨h1, h2, h3, h4, h5, h6, h7, h8, h9, h10, h11, h12, h13, h14, h15, h16, h17, h18, h19, h20⟩

theorem State.sameBut.drawn {w : Touch} {s t : State} (h : s.sameBut w t) (n : Nat) :
    s.sameBut w (t.drawn n) := by
  obtain ⟨h1, h2, h3, h4, h5, h6, h7, h8, h9, h10, h11, h12, h13, h14, h15, h16, h17, h18, h19, h20⟩ := h
  exact ⟨h1, h2, h3, h4, h5, h6, h7, h8, h9, h10, h11, h12, h13, h14, h15, h16, h17, h18, h19, h20⟩

theorem State.sameBut.set8 {w : Touch} {s t : State} (h : s.sameBut w t) (r : Reg8) (v : Byte) (hw : r ∈ w.regs) :
    s.sameBut w (t.set8 r v) := by
  obtain ⟨h1, h2, h3, h4, h5, h6, h7, h8, h9, h10, h11, h12, h13, h14, h15, h16, h17, h18, h19, h20⟩ := h
  cases r <;> exact ⟨fun q hq => (State.get8_set8_other t _ q v (by rintro rfl; exact hq hw)).trans (h1 q hq), h2, h3, h4, h5, h6, h7, h8, h9, h10, h11, h12, h13, h14, h15, h16, h17, h18, h19, h20⟩

theorem State.sameBut.setIdx {w : Touch} {s t : State} (h : s.sameBut w t) (ii : Idx) (v : Word) (hw : ii ∈ w.idx) :
    s.sameBut w (t.setIdx ii v) := by
  obtain ⟨h1, h2, h3, h4, h5, h6, h7, h8, h9, h10, h11, h12, h13, h14, h15, h16, h17, h18, h19, h20⟩ := h
  cases ii <;> exact ⟨fun q hq => (by cases q <;> rfl : _ = t.get8 q).trans (h1 q hq), fun jj hj => (State.idx_setIdx_other t _ jj v (by rintro rfl; exact hj hw)).trans (h2 jj hj), h3, h4, h5, h6, h7, h8, h9, h10, h11, h12, h13, h14, h15, h16, h17, h18, h19, h20⟩

theorem State.sameBut.setIdxHi {w : Touch} {s t : State} (h : s.sameBut w t) (ii : Idx) (v : Byte) (hw : ii ∈ w.idx) :
    s.sameBut w (t.setIdxHi ii v) :=
  h.setIdx ii _ hw

theorem State.sameBut.setIdxLo {w : Touch} {s t : State} (h : s.sameBut w t) (ii : Idx) (v : Byte) (hw : ii ∈ w.idx) :
    s.sameBut w (t.setIdxLo ii v) :=
  h.setIdx ii _ hw

theorem State.sameBut.writeFlags {w : Touch} {s t : State} (h : s.sameBut w t) (g : Flags) (src : XySource) (hw : w.flags = true) :
    s.sameBut w (t.writeFlags g src) := by
  obtain ⟨h1, h2, h3, h4, h5, h6, h7, h8, h9, h10, h11, h12, h13, h14, h15, h16, h17, h18, h19, h20⟩ := h
  exact ⟨fun q hq => (by cases q <;> rfl : _ = t.get8 q).trans (h1 q hq), fun jj hj => (by cases jj <;> rfl : _ = t.idx jj).trans (h2 jj hj), h3, h4, fun e => absurd e (by simp [hw]), h6, h7, h8, h9, h10, h11, h12, h13, h14, h15, h16, h17, h18, h19, h20⟩

theorem State.sameBut.jump {w : Touch} {s t : State} (h : s.sameBut w t) (a : Word) (hw : w.pc = true) :
    s.sameBut w (t.jump a) := by
  obtain ⟨h1, h2, h3, h4, h5, h6, h7, h8, h9, h10, h11, h12, h13, h14, h15, h16, h17, h18, h19, h20⟩ := h
  exact ⟨fun q hq => (by cases q <;> rfl : _ = t.get8 q).trans (h1 q hq), fun jj hj => (by cases jj <;> rfl : _ = t.idx jj).trans (h2 jj hj), h3, fun e => absurd e (by simp [hw]), h5, h6, h7, h8, h9, h10, h11, h12, h13, h14, h15, h16, h17, h18, h19, h20⟩

theorem State.sameBut.jumpRel {w : Touch} {s t : State} (h : s.sameBut w t) (e : Byte) (hw : w.pc = true) :
    s.sameBut w (t.jumpRel e) := by
  obtain ⟨h1, h2, h3, h4, h5, h6, h7, h8, h9, h10, h11, h12, h13, h14, h15, h16, h17, h18, h19, h20⟩ := h
  exact ⟨fun q hq => (by cases q <;> rfl : _ = t.get8 q).trans (h1 q hq), fun jj hj => (by cases jj <;> rfl : _ = t.idx jj).trans (h2 jj hj), h3, fun e => absurd e (by simp [hw]), h5, h6, h7, h8, h9, h10, h11, h12, h13, h14, h15, h16, h17, h18, h19, h20⟩

theorem State.sameBut.setSp {w : Touch} {s t : State} (h : s.sameBut w t) (v : Word) (hw : w.sp = true) :
    s.sameBut w ({ t with sp := v }) := by
  obtain ⟨h1, h2, h3, h4, h5, h6, h7, h8, h9, h10, h11, h12, h13, h14, h15, h16, h17, h18, h19, h20⟩ := h
  exact ⟨fun q hq => (by cases q <;> rfl : _ = t.get8 q).trans (h1 q hq), fun jj hj => (by cases jj <;> rfl : _ = t.idx jj).trans (h2 jj hj), fun e => absurd e (by simp [hw]), h4, h5, h6, h7, h8, h9, h10, h11, h12, h13, h14, h15, h16, h17, h18, h19, h20⟩

theorem State.sameBut.readPort {w : Touch} {s t : State} (h : s.sameBut w t) (p : Word) (hw : w.io = true) :
    s.sameBut w (t.readPort p) := by
  obtain ⟨h1, h2, h3, h4, h5, h6, h7, h8, h9, h10, h11, h12, h13, h14, h15, h16, h17, h18, h19, h20⟩ := h
  exact ⟨fun q hq => (by cases q <;> rfl : _ = t.get8 q).trans (h1 q hq), fun jj hj => (by cases jj <;> rfl : _ = t.idx jj).trans (h2 jj hj), h3, h4, h5, h6, h7, h8, h9, h10, h11, h12, h13, h14, fun e => absurd e (by simp [hw]), h16, h17, h18, h19, h20⟩

theorem State.sameBut.writePort {w : Touch} {s t : State} (h : s.sameBut w t) (p : Word) (v : Byte) (hw : w.io = true) :
    s.sameBut w (t.writePort p v) := by
  obtain ⟨h1, h2, h3, h4, h5, h6, h7, h8, h9, h10, h11, h12, h13, h14, h15, h16, h17, h18, h19, h20⟩ := h
  exact ⟨fun q hq => (by cases q <;> rfl : _ = t.get8 q).trans (h1 q hq), fun jj hj => (by cases jj <;> rfl : _ = t.idx jj).trans (h2 jj hj), h3, h4, h5, h6, h7, h8, h9, h10, h11, h12, h13, h14, fun e => absurd e (by simp [hw]), h16, h17, h18, h19, h20⟩

theorem State.sameBut.report {w : Touch} {s t : State} (h : s.sameBut w t) (e : DiagEvent) (hw : w.diag = true) :
    s.sameBut w (t.report e) := by
  obtain ⟨h1, h2, h3, h4, h5, h6, h7, h8, h9, h10, h11, h12, h13, h14, h15, h16, h17, h18, h19, h20⟩ := h
  exact ⟨fun q hq => (by cases q <;> rfl : _ = t.get8 q).trans (h1 q hq), fun jj hj => (by cases jj <;> rfl : _ = t.idx jj).trans (h2 jj hj), h3, h4, h5, h6, h7, h8, h9, h10, h11, h12, h13, h14, h15, fun e => absurd e (by simp [hw]), h17, h18, h19, h20⟩

theorem State.sameBut.setHalted {w : Touch} {s t : State} (h : s.sameBut w t) (b : Bool) (hw : w.halted = true) :
    s.sameBut w ({ t with halted := b }) := by
  obtain ⟨h1, h2, h3, h4, h5, h6, h7, h8, h9, h10, h11, h12, h13, h14, h15, h16, h17, h18, h19, h20⟩ := h
  exact ⟨fun q hq => (by cases q <;> rfl : _ = t.get8 q).trans (h1 q hq), fun jj hj => (by cases jj <;> rfl : _ = t.idx jj).trans (h2 jj hj), h3, h4, h5, h6, h7, h8, h9, h10, h11, h12, fun e => absurd e (by simp [hw]), h14, h15, h16, h17, h18, h19, h20⟩

theorem State.sameBut.setIff1 {w : Touch} {s t : State} (h : s.sameBut w t) (b : Bool) (hw : w.iff1 = true) :
    s.sameBut w ({ t with iff1 := b }) := by
  obtain ⟨h1, h2, h3, h4, h5, h6, h7, h8, h9, h10, h11, h12, h13, h14, h15, h16, h17, h18, h19, h20⟩ := h
  exact ⟨fun q hq => (by cases q <;> rfl : _ = t.get8 q).trans (h1 q hq), fun jj hj => (by cases jj <;> rfl : _ = t.idx jj).trans (h2 jj hj), h3, h4, h5, h6, h7, h8, h9, fun e => absurd e (by simp [hw]), h11, h12, h13, h14, h15, h16, h17, h18, h19, h20⟩

theorem State.sameBut.setIff2 {w : Touch} {s t : State} (h : s.sameBut w t) (b : Bool) (hw : w.iff2 = true) :
    s.sameBut w ({ t with iff2 := b }) := by
  obtain ⟨h1, h2, h3, h4, h5, h6, h7, h8, h9, h10, h11, h12, h13, h14, h15, h16, h17, h18, h19, h20⟩ := h
  exact ⟨fun q hq => (by cases q <;> rfl : _ = t.get8 q).trans (h1 q hq), fun jj hj => (by cases jj <;> rfl : _ = t.idx jj).trans (h2 jj hj), h3, h4, h5, h6, h7, h8, h9, h10, fun e => absurd e (by simp [hw]), h12, h13, h14, h15, h16, h17, h18, h19, h20⟩

theorem State.sameBut.setIntBlock {w : Touch} {s t : State} (h : s.sameBut w t) (b : IntBlock) (hw : w.intBlock = true) :
    s.sameBut w ({ t with intBlock := b }) := by
  obtain ⟨h1, h2, h3, h4, h5, h6, h7, h8, h9, h10, h11, h12, h13, h14, h15, h16, h17, h18, h19, h20⟩ := h
  exact ⟨fun q hq => (by cases q <;> rfl : _ = t.get8 q).trans (h1 q hq), fun jj hj => (by cases jj <;> rfl : _ = t.idx jj).trans (h2 jj hj), h3, h4, h5, h6, h7, h8, h9, h10, h11, h12, h13, fun e => absurd e (by simp [hw]), h15, h16, h17, h18, h19, h20⟩

theorem State.sameBut.setIm {w : Touch} {s t : State} (h : s.sameBut w t) (m : BitVec 2) (hw : w.im = true) :
    s.sameBut w (t.setIm m) := by
  obtain ⟨h1, h2, h3, h4, h5, h6, h7, h8, h9, h10, h11, h12, h13, h14, h15, h16, h17, h18, h19, h20⟩ := h
  exact ⟨fun q hq => (by cases q <;> rfl : _ = t.get8 q).trans (h1 q hq), fun jj hj => (by cases jj <;> rfl : _ = t.idx jj).trans (h2 jj hj), h3, h4, h5, h6, h7, h8, h9, h10, h11, fun e => absurd e (by simp [hw]), h13, h14, h15, h16, h17, h18, h19, h20⟩

theorem State.sameBut.setI {w : Touch} {s t : State} (h : s.sameBut w t) (v : Byte) (hw : w.i = true) :
    s.sameBut w (t.setI v) := by
  obtain ⟨h1, h2, h3, h4, h5, h6, h7, h8, h9, h10, h11, h12, h13, h14, h15, h16, h17, h18, h19, h20⟩ := h
  exact ⟨fun q hq => (by cases q <;> rfl : _ = t.get8 q).trans (h1 q hq), fun jj hj => (by cases jj <;> rfl : _ = t.idx jj).trans (h2 jj hj), h3, h4, h5, h6, h7, fun e => absurd e (by simp [hw]), h9, h10, h11, h12, h13, h14, h15, h16, h17, h18, h19, h20⟩

theorem State.sameBut.setR {w : Touch} {s t : State} (h : s.sameBut w t) (v : Byte) (hw : w.r = true) :
    s.sameBut w (t.setR v) := by
  obtain ⟨h1, h2, h3, h4, h5, h6, h7, h8, h9, h10, h11, h12, h13, h14, h15, h16, h17, h18, h19, h20⟩ := h
  exact ⟨fun q hq => (by cases q <;> rfl : _ = t.get8 q).trans (h1 q hq), fun jj hj => (by cases jj <;> rfl : _ = t.idx jj).trans (h2 jj hj), h3, h4, h5, h6, h7, h8, fun e => absurd e (by simp [hw]), h10, h11, h12, h13, h14, h15, h16, h17, h18, h19, h20⟩

theorem State.sameBut.poke {w : Touch} {s t : State} (h : s.sameBut w t) (a : Word) (v : Byte) (hw : a ∈ w.bytes) :
    s.sameBut w (t.poke a v) := by
  obtain ⟨h1, h2, h3, h4, h5, h6, h7, h8, h9, h10, h11, h12, h13, h14, h15, h16, h17, h18, h19, h20⟩ := h
  exact ⟨fun q hq => (by cases q <;> rfl : _ = t.get8 q).trans (h1 q hq), fun jj hj => (by cases jj <;> rfl : _ = t.idx jj).trans (h2 jj hj), h3, h4, h5, h6, h7, h8, h9, h10, h11, h12, h13, h14, h15, h16, h17, h18, h19, fun b hb => (State.peek_poke_other t a b v (by rintro rfl; exact hb hw)).trans (h20 b hb)⟩

theorem State.sameBut.pokeWord {w : Touch} {s t : State} (h : s.sameBut w t) (a v : Word) (h0 : a ∈ w.bytes)
    (h1 : a + 1 ∈ w.bytes) : s.sameBut w (t.pokeWord a v) :=
  (h.poke a _ h0).poke (a + 1) _ h1

theorem State.sameBut.pushed {w : Touch} {s t : State} (h : s.sameBut w t) (v : Word) (hw : w.sp = true) (h0 : t.sp - 2 ∈ w.bytes)
    (h1 : t.sp - 2 + 1 ∈ w.bytes) : s.sameBut w (t.pushed v) :=
  (h.setSp (t.sp - 2) hw).pokeWord (t.sp - 2) v h0 h1

theorem State.sameBut.popped {w : Touch} {s t : State} (h : s.sameBut w t) (hw : w.sp = true) : s.sameBut w t.popped :=
  h.setSp (t.sp + 2) hw

theorem State.sameBut.set16 {w : Touch} {s t : State} (h : s.sameBut w t) (p : Pair) (v : Word)
    (hr : ∀ r ∈ (pairTouch p).regs, r ∈ w.regs) (hs : (pairTouch p).sp = true → w.sp = true) : s.sameBut w (t.set16 p v) := by
  cases p
  · exact (h.set8 .b (hiByte v) (hr _ (by decide))).set8 .c (loByte v) (hr _ (by decide))
  · exact (h.set8 .d (hiByte v) (hr _ (by decide))).set8 .e (loByte v) (hr _ (by decide))
  · exact (h.set8 .h (hiByte v) (hr _ (by decide))).set8 .l (loByte v) (hr _ (by decide))
  · exact h.setSp v (hs rfl)

theorem State.sameBut.setF {w : Touch} {s t : State} (h : s.sameBut w t) (g : Flags) (hw : w.flags = true) :
    s.sameBut w ({ t with f := g }) := by
  obtain ⟨h1, h2, h3, h4, h5, h6, h7, h8, h9, h10, h11, h12, h13, h14, h15, h16, h17, h18, h19, h20⟩ := h
  exact ⟨fun q hq => (by cases q <;> rfl : _ = t.get8 q).trans (h1 q hq), fun jj hj => (by cases jj <;> rfl : _ = t.idx jj).trans (h2 jj hj), h3, h4, fun e => absurd e (by simp [hw]), h6, h7, h8, h9, h10, h11, h12, h13, h14, h15, h16, h17, h18, h19, h20⟩

theorem State.sameBut.setQQ {w : Touch} {s t : State} (h : s.sameBut w t) (q : StackPair) (v : Word)
    (hr : ∀ r ∈ (match q with | .bc => [Reg8.b, .c] | .de => [.d, .e] | .hl => [.h, .l] | .af => [.a]), r ∈ w.regs)
    (hf : q = .af → w.flags = true) : s.sameBut w (t.setQQ q v) := by
  cases q
  · exact (h.set8 .b (hiByte v) (hr _ (by decide))).set8 .c (loByte v) (hr _ (by decide))
  · exact (h.set8 .d (hiByte v) (hr _ (by decide))).set8 .e (loByte v) (hr _ (by decide))
  · exact (h.set8 .h (hiByte v) (hr _ (by decide))).set8 .l (loByte v) (hr _ (by decide))
  · exact (h.setF _ (hf rfl)).set8 .a (hiByte v) (hr _ (by decide))

/-- The cost an instruction adds under the default table, from its number there. -/
theorem State.retired_cycles {s t : State} {i : Instr} {taken : Bool} {n : Nat} (h : t.cycles = s.cycles) (hp : t.params = s.params)
    (hc : cost [] i taken = n) (hd : s.params.costs = []) :
    (t.spend (cost t.params.costs i taken)).cycles = s.cycles + BitVec.ofNat 64 n := by
  rw [State.spend_cycles, h, hp, hd, hc]

end Sys2Proof.Machine
end

