-- ==== Sys2Proof/Laws/Updates.lean ====
section
/-! SUPPORT. One lemma per field for the states that draws, word stores, pushes, pops and the accumulator operations leave. -/

namespace Sys2Proof.Machine

/-! ### drawn -/

@[simp] theorem State.drawn_a (s : State) (n : Nat) : (s.drawn n).a = s.a := rfl
@[simp] theorem State.drawn_f (s : State) (n : Nat) : (s.drawn n).f = s.f := rfl
@[simp] theorem State.drawn_b (s : State) (n : Nat) : (s.drawn n).b = s.b := rfl
@[simp] theorem State.drawn_c (s : State) (n : Nat) : (s.drawn n).c = s.c := rfl
@[simp] theorem State.drawn_d (s : State) (n : Nat) : (s.drawn n).d = s.d := rfl
@[simp] theorem State.drawn_e (s : State) (n : Nat) : (s.drawn n).e = s.e := rfl
@[simp] theorem State.drawn_h (s : State) (n : Nat) : (s.drawn n).h = s.h := rfl
@[simp] theorem State.drawn_l (s : State) (n : Nat) : (s.drawn n).l = s.l := rfl
@[simp] theorem State.drawn_aAlt (s : State) (n : Nat) : (s.drawn n).aAlt = s.aAlt := rfl
@[simp] theorem State.drawn_fAlt (s : State) (n : Nat) : (s.drawn n).fAlt = s.fAlt := rfl
@[simp] theorem State.drawn_bAlt (s : State) (n : Nat) : (s.drawn n).bAlt = s.bAlt := rfl
@[simp] theorem State.drawn_cAlt (s : State) (n : Nat) : (s.drawn n).cAlt = s.cAlt := rfl
@[simp] theorem State.drawn_dAlt (s : State) (n : Nat) : (s.drawn n).dAlt = s.dAlt := rfl
@[simp] theorem State.drawn_eAlt (s : State) (n : Nat) : (s.drawn n).eAlt = s.eAlt := rfl
@[simp] theorem State.drawn_hAlt (s : State) (n : Nat) : (s.drawn n).hAlt = s.hAlt := rfl
@[simp] theorem State.drawn_lAlt (s : State) (n : Nat) : (s.drawn n).lAlt = s.lAlt := rfl
@[simp] theorem State.drawn_ix (s : State) (n : Nat) : (s.drawn n).ix = s.ix := rfl
@[simp] theorem State.drawn_iy (s : State) (n : Nat) : (s.drawn n).iy = s.iy := rfl
@[simp] theorem State.drawn_sp (s : State) (n : Nat) : (s.drawn n).sp = s.sp := rfl
@[simp] theorem State.drawn_pc (s : State) (n : Nat) : (s.drawn n).pc = s.pc := rfl
@[simp] theorem State.drawn_i (s : State) (n : Nat) : (s.drawn n).i = s.i := rfl
@[simp] theorem State.drawn_r (s : State) (n : Nat) : (s.drawn n).r = s.r := rfl
@[simp] theorem State.drawn_iff1 (s : State) (n : Nat) : (s.drawn n).iff1 = s.iff1 := rfl
@[simp] theorem State.drawn_iff2 (s : State) (n : Nat) : (s.drawn n).iff2 = s.iff2 := rfl
@[simp] theorem State.drawn_im (s : State) (n : Nat) : (s.drawn n).im = s.im := rfl
@[simp] theorem State.drawn_halted (s : State) (n : Nat) : (s.drawn n).halted = s.halted := rfl
@[simp] theorem State.drawn_intPending (s : State) (n : Nat) : (s.drawn n).intPending = s.intPending := rfl
@[simp] theorem State.drawn_nmiPending (s : State) (n : Nat) : (s.drawn n).nmiPending = s.nmiPending := rfl
@[simp] theorem State.drawn_intBlock (s : State) (n : Nat) : (s.drawn n).intBlock = s.intBlock := rfl
@[simp] theorem State.drawn_io (s : State) (n : Nat) : (s.drawn n).io = s.io := rfl
@[simp] theorem State.drawn_diag (s : State) (n : Nat) : (s.drawn n).diag = s.diag := rfl
@[simp] theorem State.drawn_get8 (s : State) (n : Nat) (x : Reg8) : (s.drawn n).get8 x = s.get8 x := by cases x <;> rfl
@[simp] theorem State.drawn_idx (s : State) (n : Nat) (x : Idx) : (s.drawn n).idx x = s.idx x := by cases x <;> rfl
@[simp] theorem State.drawn_ea (s : State) (n : Nat) (x : Idx) (k : Byte) : (s.drawn n).ea x k = s.ea x k := by cases x <;> rfl
@[simp] theorem State.drawn_get16 (s : State) (n : Nat) (x : Pair) : (s.drawn n).get16 x = s.get16 x := by cases x <;> rfl
@[simp] theorem State.drawn_bc (s : State) (n : Nat) : (s.drawn n).bc = s.bc := rfl
@[simp] theorem State.drawn_de (s : State) (n : Nat) : (s.drawn n).de = s.de := rfl
@[simp] theorem State.drawn_hl (s : State) (n : Nat) : (s.drawn n).hl = s.hl := rfl
@[simp] theorem State.drawn_cond (s : State) (n : Nat) (x : Cond) : (s.drawn n).cond x = s.cond x := by cases x <;> rfl
@[simp] theorem State.drawn_portValue (s : State) (n : Nat) (x : Word) : (s.drawn n).portValue x = s.portValue x := rfl

/-! ### pokeWord -/

@[simp] theorem State.pokeWord_a (s : State) (w v : Word) : (s.pokeWord w v).a = s.a := rfl
@[simp] theorem State.pokeWord_f (s : State) (w v : Word) : (s.pokeWord w v).f = s.f := rfl
@[simp] theorem State.pokeWord_b (s : State) (w v : Word) : (s.pokeWord w v).b = s.b := rfl
@[simp] theorem State.pokeWord_c (s : State) (w v : Word) : (s.pokeWord w v).c = s.c := rfl
@[simp] theorem State.pokeWord_d (s : State) (w v : Word) : (s.pokeWord w v).d = s.d := rfl
@[simp] theorem State.pokeWord_e (s : State) (w v : Word) : (s.pokeWord w v).e = s.e := rfl
@[simp] theorem State.pokeWord_h (s : State) (w v : Word) : (s.pokeWord w v).h = s.h := rfl
@[simp] theorem State.pokeWord_l (s : State) (w v : Word) : (s.pokeWord w v).l = s.l := rfl
@[simp] theorem State.pokeWord_aAlt (s : State) (w v : Word) : (s.pokeWord w v).aAlt = s.aAlt := rfl
@[simp] theorem State.pokeWord_fAlt (s : State) (w v : Word) : (s.pokeWord w v).fAlt = s.fAlt := rfl
@[simp] theorem State.pokeWord_bAlt (s : State) (w v : Word) : (s.pokeWord w v).bAlt = s.bAlt := rfl
@[simp] theorem State.pokeWord_cAlt (s : State) (w v : Word) : (s.pokeWord w v).cAlt = s.cAlt := rfl
@[simp] theorem State.pokeWord_dAlt (s : State) (w v : Word) : (s.pokeWord w v).dAlt = s.dAlt := rfl
@[simp] theorem State.pokeWord_eAlt (s : State) (w v : Word) : (s.pokeWord w v).eAlt = s.eAlt := rfl
@[simp] theorem State.pokeWord_hAlt (s : State) (w v : Word) : (s.pokeWord w v).hAlt = s.hAlt := rfl
@[simp] theorem State.pokeWord_lAlt (s : State) (w v : Word) : (s.pokeWord w v).lAlt = s.lAlt := rfl
@[simp] theorem State.pokeWord_ix (s : State) (w v : Word) : (s.pokeWord w v).ix = s.ix := rfl
@[simp] theorem State.pokeWord_iy (s : State) (w v : Word) : (s.pokeWord w v).iy = s.iy := rfl
@[simp] theorem State.pokeWord_sp (s : State) (w v : Word) : (s.pokeWord w v).sp = s.sp := rfl
@[simp] theorem State.pokeWord_pc (s : State) (w v : Word) : (s.pokeWord w v).pc = s.pc := rfl
@[simp] theorem State.pokeWord_i (s : State) (w v : Word) : (s.pokeWord w v).i = s.i := rfl
@[simp] theorem State.pokeWord_r (s : State) (w v : Word) : (s.pokeWord w v).r = s.r := rfl
@[simp] theorem State.pokeWord_iff1 (s : State) (w v : Word) : (s.pokeWord w v).iff1 = s.iff1 := rfl
@[simp] theorem State.pokeWord_iff2 (s : State) (w v : Word) : (s.pokeWord w v).iff2 = s.iff2 := rfl
@[simp] theorem State.pokeWord_im (s : State) (w v : Word) : (s.pokeWord w v).im = s.im := rfl
@[simp] theorem State.pokeWord_halted (s : State) (w v : Word) : (s.pokeWord w v).halted = s.halted := rfl
@[simp] theorem State.pokeWord_cycles (s : State) (w v : Word) : (s.pokeWord w v).cycles = s.cycles := rfl
@[simp] theorem State.pokeWord_intPending (s : State) (w v : Word) : (s.pokeWord w v).intPending = s.intPending := rfl
@[simp] theorem State.pokeWord_nmiPending (s : State) (w v : Word) : (s.pokeWord w v).nmiPending = s.nmiPending := rfl
@[simp] theorem State.pokeWord_intBlock (s : State) (w v : Word) : (s.pokeWord w v).intBlock = s.intBlock := rfl
@[simp] theorem State.pokeWord_io (s : State) (w v : Word) : (s.pokeWord w v).io = s.io := rfl
@[simp] theorem State.pokeWord_diag (s : State) (w v : Word) : (s.pokeWord w v).diag = s.diag := rfl
@[simp] theorem State.pokeWord_draws (s : State) (w v : Word) : (s.pokeWord w v).draws = s.draws := rfl
@[simp] theorem State.pokeWord_get8 (s : State) (w v : Word) (x : Reg8) : (s.pokeWord w v).get8 x = s.get8 x := by cases x <;> rfl
@[simp] theorem State.pokeWord_idx (s : State) (w v : Word) (x : Idx) : (s.pokeWord w v).idx x = s.idx x := by cases x <;> rfl
@[simp] theorem State.pokeWord_ea (s : State) (w v : Word) (x : Idx) (k : Byte) : (s.pokeWord w v).ea x k = s.ea x k := by cases x <;> rfl
@[simp] theorem State.pokeWord_get16 (s : State) (w v : Word) (x : Pair) : (s.pokeWord w v).get16 x = s.get16 x := by cases x <;> rfl
@[simp] theorem State.pokeWord_bc (s : State) (w v : Word) : (s.pokeWord w v).bc = s.bc := rfl
@[simp] theorem State.pokeWord_de (s : State) (w v : Word) : (s.pokeWord w v).de = s.de := rfl
@[simp] theorem State.pokeWord_hl (s : State) (w v : Word) : (s.pokeWord w v).hl = s.hl := rfl
@[simp] theorem State.pokeWord_cond (s : State) (w v : Word) (x : Cond) : (s.pokeWord w v).cond x = s.cond x := by cases x <;> rfl
@[simp] theorem State.pokeWord_portValue (s : State) (w v : Word) (x : Word) : (s.pokeWord w v).portValue x = s.portValue x := rfl

/-! ### pushed -/

@[simp] theorem State.pushed_a (s : State) (v : Word) : (s.pushed v).a = s.a := rfl
@[simp] theorem State.pushed_f (s : State) (v : Word) : (s.pushed v).f = s.f := rfl
@[simp] theorem State.pushed_b (s : State) (v : Word) : (s.pushed v).b = s.b := rfl
@[simp] theorem State.pushed_c (s : State) (v : Word) : (s.pushed v).c = s.c := rfl
@[simp] theorem State.pushed_d (s : State) (v : Word) : (s.pushed v).d = s.d := rfl
@[simp] theorem State.pushed_e (s : State) (v : Word) : (s.pushed v).e = s.e := rfl
@[simp] theorem State.pushed_h (s : State) (v : Word) : (s.pushed v).h = s.h := rfl
@[simp] theorem State.pushed_l (s : State) (v : Word) : (s.pushed v).l = s.l := rfl
@[simp] theorem State.pushed_aAlt (s : State) (v : Word) : (s.pushed v).aAlt = s.aAlt := rfl
@[simp] theorem State.pushed_fAlt (s : State) (v : Word) : (s.pushed v).fAlt = s.fAlt := rfl
@[simp] theorem State.pushed_bAlt (s : State) (v : Word) : (s.pushed v).bAlt = s.bAlt := rfl
@[simp] theorem State.pushed_cAlt (s : State) (v : Word) : (s.pushed v).cAlt = s.cAlt := rfl
@[simp] theorem State.pushed_dAlt (s : State) (v : Word) : (s.pushed v).dAlt = s.dAlt := rfl
@[simp] theorem State.pushed_eAlt (s : State) (v : Word) : (s.pushed v).eAlt = s.eAlt := rfl
@[simp] theorem State.pushed_hAlt (s : State) (v : Word) : (s.pushed v).hAlt = s.hAlt := rfl
@[simp] theorem State.pushed_lAlt (s : State) (v : Word) : (s.pushed v).lAlt = s.lAlt := rfl
@[simp] theorem State.pushed_ix (s : State) (v : Word) : (s.pushed v).ix = s.ix := rfl
@[simp] theorem State.pushed_iy (s : State) (v : Word) : (s.pushed v).iy = s.iy := rfl
@[simp] theorem State.pushed_pc (s : State) (v : Word) : (s.pushed v).pc = s.pc := rfl
@[simp] theorem State.pushed_i (s : State) (v : Word) : (s.pushed v).i = s.i := rfl
@[simp] theorem State.pushed_r (s : State) (v : Word) : (s.pushed v).r = s.r := rfl
@[simp] theorem State.pushed_iff1 (s : State) (v : Word) : (s.pushed v).iff1 = s.iff1 := rfl
@[simp] theorem State.pushed_iff2 (s : State) (v : Word) : (s.pushed v).iff2 = s.iff2 := rfl
@[simp] theorem State.pushed_im (s : State) (v : Word) : (s.pushed v).im = s.im := rfl
@[simp] theorem State.pushed_halted (s : State) (v : Word) : (s.pushed v).halted = s.halted := rfl
@[simp] theorem State.pushed_cycles (s : State) (v : Word) : (s.pushed v).cycles = s.cycles := rfl
@[simp] theorem State.pushed_intPending (s : State) (v : Word) : (s.pushed v).intPending = s.intPending := rfl
@[simp] theorem State.pushed_nmiPending (s : State) (v : Word) : (s.pushed v).nmiPending = s.nmiPending := rfl
@[simp] theorem State.pushed_intBlock (s : State) (v : Word) : (s.pushed v).intBlock = s.intBlock := rfl
@[simp] theorem State.pushed_io (s : State) (v : Word) : (s.pushed v).io = s.io := rfl
@[simp] theorem State.pushed_diag (s : State) (v : Word) : (s.pushed v).diag = s.diag := rfl
@[simp] theorem State.pushed_params (s : State) (v : Word) : (s.pushed v).params = s.params := rfl
@[simp] theorem State.pushed_draws (s : State) (v : Word) : (s.pushed v).draws = s.draws := rfl
@[simp] theorem State.pushed_get8 (s : State) (v : Word) (x : Reg8) : (s.pushed v).get8 x = s.get8 x := by cases x <;> rfl
@[simp] theorem State.pushed_idx (s : State) (v : Word) (x : Idx) : (s.pushed v).idx x = s.idx x := by cases x <;> rfl
@[simp] theorem State.pushed_ea (s : State) (v : Word) (x : Idx) (k : Byte) : (s.pushed v).ea x k = s.ea x k := by cases x <;> rfl
@[simp] theorem State.pushed_bc (s : State) (v : Word) : (s.pushed v).bc = s.bc := rfl
@[simp] theorem State.pushed_de (s : State) (v : Word) : (s.pushed v).de = s.de := rfl
@[simp] theorem State.pushed_hl (s : State) (v : Word) : (s.pushed v).hl = s.hl := rfl
@[simp] theorem State.pushed_cond (s : State) (v : Word) (x : Cond) : (s.pushed v).cond x = s.cond x := by cases x <;> rfl
@[simp] theorem State.pushed_portValue (s : State) (v : Word) (x : Word) : (s.pushed v).portValue x = s.portValue x := rfl

/-! ### popped -/

@[simp] theorem State.popped_a (s : State)  : (s.popped).a = s.a := rfl
@[simp] theorem State.popped_f (s : State)  : (s.popped).f = s.f := rfl
@[simp] theorem State.popped_b (s : State)  : (s.popped).b = s.b := rfl
@[simp] theorem State.popped_c (s : State)  : (s.popped).c = s.c := rfl
@[simp] theorem State.popped_d (s : State)  : (s.popped).d = s.d := rfl
@[simp] theorem State.popped_e (s : State)  : (s.popped).e = s.e := rfl
@[simp] theorem State.popped_h (s : State)  : (s.popped).h = s.h := rfl
@[simp] theorem State.popped_l (s : State)  : (s.popped).l = s.l := rfl
@[simp] theorem State.popped_aAlt (s : State)  : (s.popped).aAlt = s.aAlt := rfl
@[simp] theorem State.popped_fAlt (s : State)  : (s.popped).fAlt = s.fAlt := rfl
@[simp] theorem State.popped_bAlt (s : State)  : (s.popped).bAlt = s.bAlt := rfl
@[simp] theorem State.popped_cAlt (s : State)  : (s.popped).cAlt = s.cAlt := rfl
@[simp] theorem State.popped_dAlt (s : State)  : (s.popped).dAlt = s.dAlt := rfl
@[simp] theorem State.popped_eAlt (s : State)  : (s.popped).eAlt = s.eAlt := rfl
@[simp] theorem State.popped_hAlt (s : State)  : (s.popped).hAlt = s.hAlt := rfl
@[simp] theorem State.popped_lAlt (s : State)  : (s.popped).lAlt = s.lAlt := rfl
@[simp] theorem State.popped_ix (s : State)  : (s.popped).ix = s.ix := rfl
@[simp] theorem State.popped_iy (s : State)  : (s.popped).iy = s.iy := rfl
@[simp] theorem State.popped_pc (s : State)  : (s.popped).pc = s.pc := rfl
@[simp] theorem State.popped_i (s : State)  : (s.popped).i = s.i := rfl
@[simp] theorem State.popped_r (s : State)  : (s.popped).r = s.r := rfl
@[simp] theorem State.popped_iff1 (s : State)  : (s.popped).iff1 = s.iff1 := rfl
@[simp] theorem State.popped_iff2 (s : State)  : (s.popped).iff2 = s.iff2 := rfl
@[simp] theorem State.popped_im (s : State)  : (s.popped).im = s.im := rfl
@[simp] theorem State.popped_halted (s : State)  : (s.popped).halted = s.halted := rfl
@[simp] theorem State.popped_cycles (s : State)  : (s.popped).cycles = s.cycles := rfl
@[simp] theorem State.popped_intPending (s : State)  : (s.popped).intPending = s.intPending := rfl
@[simp] theorem State.popped_nmiPending (s : State)  : (s.popped).nmiPending = s.nmiPending := rfl
@[simp] theorem State.popped_intBlock (s : State)  : (s.popped).intBlock = s.intBlock := rfl
@[simp] theorem State.popped_mem (s : State)  : (s.popped).mem = s.mem := rfl
@[simp] theorem State.popped_io (s : State)  : (s.popped).io = s.io := rfl
@[simp] theorem State.popped_diag (s : State)  : (s.popped).diag = s.diag := rfl
@[simp] theorem State.popped_params (s : State)  : (s.popped).params = s.params := rfl
@[simp] theorem State.popped_draws (s : State)  : (s.popped).draws = s.draws := rfl
@[simp] theorem State.popped_get8 (s : State)  (x : Reg8) : (s.popped).get8 x = s.get8 x := by cases x <;> rfl
@[simp] theorem State.popped_idx (s : State)  (x : Idx) : (s.popped).idx x = s.idx x := by cases x <;> rfl
@[simp] theorem State.popped_ea (s : State)  (x : Idx) (k : Byte) : (s.popped).ea x k = s.ea x k := by cases x <;> rfl
@[simp] theorem State.popped_bc (s : State)  : (s.popped).bc = s.bc := rfl
@[simp] theorem State.popped_de (s : State)  : (s.popped).de = s.de := rfl
@[simp] theorem State.popped_hl (s : State)  : (s.popped).hl = s.hl := rfl
@[simp] theorem State.popped_cond (s : State)  (x : Cond) : (s.popped).cond x = s.cond x := by cases x <;> rfl
@[simp] theorem State.popped_peek (s : State)  (x : Word) : (s.popped).peek x = s.peek x := rfl
@[simp] theorem State.popped_portValue (s : State)  (x : Word) : (s.popped).portValue x = s.portValue x := rfl

/-! ### alu -/

@[simp] theorem State.alu_b (s : State) (op : AluOp) (v : Byte) : (s.alu op v).b = s.b := by cases op <;> rfl
@[simp] theorem State.alu_c (s : State) (op : AluOp) (v : Byte) : (s.alu op v).c = s.c := by cases op <;> rfl
@[simp] theorem State.alu_d (s : State) (op : AluOp) (v : Byte) : (s.alu op v).d = s.d := by cases op <;> rfl
@[simp] theorem State.alu_e (s : State) (op : AluOp) (v : Byte) : (s.alu op v).e = s.e := by cases op <;> rfl
@[simp] theorem State.alu_h (s : State) (op : AluOp) (v : Byte) : (s.alu op v).h = s.h := by cases op <;> rfl
@[simp] theorem State.alu_l (s : State) (op : AluOp) (v : Byte) : (s.alu op v).l = s.l := by cases op <;> rfl
@[simp] theorem State.alu_aAlt (s : State) (op : AluOp) (v : Byte) : (s.alu op v).aAlt = s.aAlt := by cases op <;> rfl
@[simp] theorem State.alu_fAlt (s : State) (op : AluOp) (v : Byte) : (s.alu op v).fAlt = s.fAlt := by cases op <;> rfl
@[simp] theorem State.alu_bAlt (s : State) (op : AluOp) (v : Byte) : (s.alu op v).bAlt = s.bAlt := by cases op <;> rfl
@[simp] theorem State.alu_cAlt (s : State) (op : AluOp) (v : Byte) : (s.alu op v).cAlt = s.cAlt := by cases op <;> rfl
@[simp] theorem State.alu_dAlt (s : State) (op : AluOp) (v : Byte) : (s.alu op v).dAlt = s.dAlt := by cases op <;> rfl
@[simp] theorem State.alu_eAlt (s : State) (op : AluOp) (v : Byte) : (s.alu op v).eAlt = s.eAlt := by cases op <;> rfl
@[simp] theorem State.alu_hAlt (s : State) (op : AluOp) (v : Byte) : (s.alu op v).hAlt = s.hAlt := by cases op <;> rfl
@[simp] theorem State.alu_lAlt (s : State) (op : AluOp) (v : Byte) : (s.alu op v).lAlt = s.lAlt := by cases op <;> rfl
@[simp] theorem State.alu_ix (s : State) (op : AluOp) (v : Byte) : (s.alu op v).ix = s.ix := by cases op <;> rfl
@[simp] theorem State.alu_iy (s : State) (op : AluOp) (v : Byte) : (s.alu op v).iy = s.iy := by cases op <;> rfl
@[simp] theorem State.alu_sp (s : State) (op : AluOp) (v : Byte) : (s.alu op v).sp = s.sp := by cases op <;> rfl
@[simp] theorem State.alu_pc (s : State) (op : AluOp) (v : Byte) : (s.alu op v).pc = s.pc := by cases op <;> rfl
@[simp] theorem State.alu_i (s : State) (op : AluOp) (v : Byte) : (s.alu op v).i = s.i := by cases op <;> rfl
@[simp] theorem State.alu_r (s : State) (op : AluOp) (v : Byte) : (s.alu op v).r = s.r := by cases op <;> rfl
@[simp] theorem State.alu_iff1 (s : State) (op : AluOp) (v : Byte) : (s.alu op v).iff1 = s.iff1 := by cases op <;> rfl
@[simp] theorem State.alu_iff2 (s : State) (op : AluOp) (v : Byte) : (s.alu op v).iff2 = s.iff2 := by cases op <;> rfl
@[simp] theorem State.alu_im (s : State) (op : AluOp) (v : Byte) : (s.alu op v).im = s.im := by cases op <;> rfl
@[simp] theorem State.alu_halted (s : State) (op : AluOp) (v : Byte) : (s.alu op v).halted = s.halted := by cases op <;> rfl
@[simp] theorem State.alu_cycles (s : State) (op : AluOp) (v : Byte) : (s.alu op v).cycles = s.cycles := by cases op <;> rfl
@[simp] theorem State.alu_intPending (s : State) (op : AluOp) (v : Byte) : (s.alu op v).intPending = s.intPending := by cases op <;> rfl
@[simp] theorem State.alu_nmiPending (s : State) (op : AluOp) (v : Byte) : (s.alu op v).nmiPending = s.nmiPending := by cases op <;> rfl
@[simp] theorem State.alu_intBlock (s : State) (op : AluOp) (v : Byte) : (s.alu op v).intBlock = s.intBlock := by cases op <;> rfl
@[simp] theorem State.alu_mem (s : State) (op : AluOp) (v : Byte) : (s.alu op v).mem = s.mem := by cases op <;> rfl
@[simp] theorem State.alu_io (s : State) (op : AluOp) (v : Byte) : (s.alu op v).io = s.io := by cases op <;> rfl
@[simp] theorem State.alu_diag (s : State) (op : AluOp) (v : Byte) : (s.alu op v).diag = s.diag := by cases op <;> rfl
@[simp] theorem State.alu_params (s : State) (op : AluOp) (v : Byte) : (s.alu op v).params = s.params := by cases op <;> rfl
@[simp] theorem State.alu_idx (s : State) (op : AluOp) (v : Byte) (x : Idx) : (s.alu op v).idx x = s.idx x := by cases op <;> cases x <;> rfl
@[simp] theorem State.alu_ea (s : State) (op : AluOp) (v : Byte) (x : Idx) (k : Byte) : (s.alu op v).ea x k = s.ea x k := by cases op <;> cases x <;> rfl
@[simp] theorem State.alu_get16 (s : State) (op : AluOp) (v : Byte) (x : Pair) : (s.alu op v).get16 x = s.get16 x := by cases op <;> cases x <;> rfl
@[simp] theorem State.alu_bc (s : State) (op : AluOp) (v : Byte) : (s.alu op v).bc = s.bc := by cases op <;> rfl
@[simp] theorem State.alu_de (s : State) (op : AluOp) (v : Byte) : (s.alu op v).de = s.de := by cases op <;> rfl
@[simp] theorem State.alu_hl (s : State) (op : AluOp) (v : Byte) : (s.alu op v).hl = s.hl := by cases op <;> rfl
@[simp] theorem State.alu_peek (s : State) (op : AluOp) (v : Byte) (x : Word) : (s.alu op v).peek x = s.peek x := by cases op <;> rfl
@[simp] theorem State.alu_portValue (s : State) (op : AluOp) (v : Byte) (x : Word) : (s.alu op v).portValue x = s.portValue x := by cases op <;> rfl

@[simp] theorem State.popped_sp (s : State) : s.popped.sp = s.sp + 2 := rfl

end Sys2Proof.Machine
end

