-- ==== Sys2Proof/Tests/Slice0.lean ====
section
/-! SUPPORT. Tests and witnesses.  Expected results come from the spec: the words from the encodings of spec/opcode_table.json, the
states from the vectors V<n> of spec/95_test_vectors.md (each theorem names its vector).  A `witness_` theorem shows a concrete state
and operands that meet the hypotheses of the obligation it names. -/

namespace Sys2Proof.Tests

open Sys2Proof.Machine Sys2Proof.Claims

/-! ### Well-formedness: an ill-formed term for each check, and its well-formed neighbour -/

theorem test_wf_jr_condition : (Instr.jrCcE .po 0).wf = false ∧ (Instr.jrCcE .m 0).wf = false ∧ (Instr.jrCcE .c 0).wf = true := by decide
theorem test_wf_pop_af : (Instr.popQq .af).wf = false ∧ (Instr.popQq .hl).wf = true := by decide
theorem test_wf_neg_duplicate : (Instr.negDup 0).wf = false ∧ (Instr.negDup 1).wf = true ∧ (Instr.negDup 7).wf = true := by decide
theorem test_wf_retn_duplicate : (Instr.retnDup 0).wf = false ∧ (Instr.retnDup 1).wf = false ∧ (Instr.retnDup 2).wf = true := by decide
theorem test_wf_im0_duplicate : (Instr.im0Dup 0).wf = false ∧ (Instr.im0Dup 2).wf = false ∧ (Instr.im0Dup 7).wf = false ∧
    (Instr.im0Dup 5).wf = true := by decide
theorem test_wf_unmapped_ed : (Instr.unmappedEd 0x40).wf = false ∧ (Instr.unmappedEd 0xB0).wf = false ∧
    (Instr.unmappedEd 0x76).wf = false ∧ (Instr.unmappedEd 0x77).wf = true ∧ (Instr.unmappedEd 0xBC).wf = true := by decide

/-! ### Decoding: a word of every row of the table, written out from its encoding; the list is in memory order -/

/-- The bytes are exactly this instruction. -/
def reads (p : List Byte × Instr) : Bool := decide (decode p.1 = .ok (p.2, []))

/-- Rows 0 to 25 of spec/opcode_table.json. -/
def words_base_1 : List (List Byte × Instr) := [
    ([0x00], .nop), ([0x01, 0x34, 0x12], .ldRrNn .bc 0x1234), ([0x02], .ldMemBcA), ([0x12], .ldMemDeA), ([0x13], .incRr .de),
    ([0x0B], .decRr .bc), ([0x0C], .incR .c), ([0x34], .incMemHl), ([0x3D], .decR .a), ([0x35], .decMemHl),
    ([0x2E, 0x56], .ldRN .l 0x56), ([0x36, 0x56], .ldMemHlN 0x56), ([0x07], .rlca), ([0x0F], .rrca), ([0x17], .rla),
    ([0x1F], .rra), ([0x08], .exAfAf), ([0x09], .addHlRr .bc), ([0x0A], .ldAMemBc), ([0x1A], .ldAMemDe),
    ([0x10, 0xF5], .djnzE 0xF5), ([0x18, 0xF5], .jrE 0xF5), ([0x30, 0xF5], .jrCcE .nc 0xF5),
    ([0x22, 0x34, 0x12], .ldMemNnHl 0x1234), ([0x2A, 0x34, 0x12], .ldHlMemNn 0x1234), ([0x32, 0x34, 0x12], .ldMemNnA 0x1234)]
theorem test_decode_base_1 : words_base_1.all reads = true := by decide
theorem test_row_base_1 : (words_base_1.map fun p => opcodeRow p.2) = List.range' 0 26 := by decide
/-- Rows 26 to 51 of spec/opcode_table.json. -/
def words_base_2 : List (List Byte × Instr) := [
    ([0x3A, 0x34, 0x12], .ldAMemNn 0x1234), ([0x27], .daa), ([0x2F], .cpl), ([0x37], .scf), ([0x3F], .ccf),
    ([0x67], .ldRR .h .a), ([0x7E], .ldRMemHl .a), ([0x74], .ldMemHlR .h), ([0x76], .halt), ([0x82], .addAR .d),
    ([0x86], .addAMemHl), ([0xC6, 0x56], .addAN 0x56), ([0x8B], .adcAR .e), ([0x8E], .adcAMemHl),
    ([0xCE, 0x56], .adcAN 0x56), ([0x94], .subR .h), ([0x96], .subMemHl), ([0xD6, 0x56], .subN 0x56), ([0x9D], .sbcAR .l),
    ([0x9E], .sbcAMemHl), ([0xDE, 0x56], .sbcAN 0x56), ([0xA7], .andR .a), ([0xA6], .andMemHl), ([0xE6, 0x56], .andN 0x56),
    ([0xAF], .xorR .a), ([0xAE], .xorMemHl)]
theorem test_decode_base_2 : words_base_2.all reads = true := by decide
theorem test_row_base_2 : (words_base_2.map fun p => opcodeRow p.2) = List.range' 26 26 := by decide
/-- Rows 52 to 77 of spec/opcode_table.json. -/
def words_base_3 : List (List Byte × Instr) := [
    ([0xEE, 0x56], .xorN 0x56), ([0xB0], .orR .b), ([0xB6], .orMemHl), ([0xF6, 0x56], .orN 0x56), ([0xB9], .cpR .c),
    ([0xBE], .cpMemHl), ([0xFE, 0x56], .cpN 0x56), ([0xC0], .retCc .nz), ([0xD1], .popQq .de), ([0xF1], .popAf),
    ([0xCA, 0x34, 0x12], .jpCcNn .z 0x1234), ([0xC3, 0x34, 0x12], .jpNn 0x1234), ([0xFC, 0x34, 0x12], .callCcNn .m 0x1234),
    ([0xC5], .pushQq .bc), ([0xEF], .rstP 5), ([0xC9], .ret), ([0xCD, 0x34, 0x12], .callNn 0x1234),
    ([0xD3, 0x56], .outMemNA 0x56), ([0xD9], .exx), ([0xDB, 0x56], .inAMemN 0x56), ([0xE3], .exMemSpHl), ([0xE9], .jpHl),
    ([0xEB], .exDeHl), ([0xF3], .di), ([0xF9], .ldSpHl), ([0xFB], .ei)]
theorem test_decode_base_3 : words_base_3.all reads = true := by decide
theorem test_row_base_3 : (words_base_3.map fun p => opcodeRow p.2) = List.range' 52 26 := by decide
/-- Rows 78 to 99 of spec/opcode_table.json. -/
def words_cb_1 : List (List Byte × Instr) := [
    ([0xCB, 0x03], .rlcR .e), ([0xCB, 0x06], .rlcMemHl), ([0xCB, 0x09], .rrcR .c), ([0xCB, 0x0E], .rrcMemHl),
    ([0xCB, 0x17], .rlR .a), ([0xCB, 0x16], .rlMemHl), ([0xCB, 0x1D], .rrR .l), ([0xCB, 0x1E], .rrMemHl),
    ([0xCB, 0x23], .slaR .e), ([0xCB, 0x26], .slaMemHl), ([0xCB, 0x29], .sraR .c), ([0xCB, 0x2E], .sraMemHl),
    ([0xCB, 0x37], .sllR .a), ([0xCB, 0x36], .sllMemHl), ([0xCB, 0x3D], .srlR .l), ([0xCB, 0x3E], .srlMemHl),
    ([0xCB, 0x4B], .bitBR 1 .e), ([0xCB, 0x66], .bitBMemHl 4), ([0xCB, 0xB9], .resBR 7 .c), ([0xCB, 0x96], .resBMemHl 2),
    ([0xCB, 0xEF], .setBR 5 .a), ([0xCB, 0xC6], .setBMemHl 0)]
theorem test_decode_cb_1 : words_cb_1.all reads = true := by decide
theorem test_row_cb_1 : (words_cb_1.map fun p => opcodeRow p.2) = List.range' 78 22 := by decide
/-- Rows 100 to 125 of spec/opcode_table.json. -/
def words_ed_1 : List (List Byte × Instr) := [
    ([0xED, 0x40], .inRMemC .b), ([0xED, 0x41], .outMemCR .b), ([0xED, 0x48], .inRMemC .c), ([0xED, 0x49], .outMemCR .c),
    ([0xED, 0x50], .inRMemC .d), ([0xED, 0x51], .outMemCR .d), ([0xED, 0x58], .inRMemC .e), ([0xED, 0x59], .outMemCR .e),
    ([0xED, 0x60], .inRMemC .h), ([0xED, 0x61], .outMemCR .h), ([0xED, 0x68], .inRMemC .l), ([0xED, 0x69], .outMemCR .l),
    ([0xED, 0x78], .inRMemC .a), ([0xED, 0x79], .outMemCR .a), ([0xED, 0x70], .inMemC), ([0xED, 0x71], .outMemC0),
    ([0xED, 0x42], .sbcHlRr .bc), ([0xED, 0x4A], .adcHlRr .bc), ([0xED, 0x43, 0x34, 0x12], .ldMemNnRr .bc 0x1234),
    ([0xED, 0x4B, 0x34, 0x12], .ldRrMemNn .bc 0x1234), ([0xED, 0x52], .sbcHlRr .de), ([0xED, 0x5A], .adcHlRr .de),
    ([0xED, 0x53, 0x34, 0x12], .ldMemNnRr .de 0x1234), ([0xED, 0x5B, 0x34, 0x12], .ldRrMemNn .de 0x1234),
    ([0xED, 0x62], .sbcHlRr .hl), ([0xED, 0x6A], .adcHlRr .hl)]
theorem test_decode_ed_1 : words_ed_1.all reads = true := by decide
theorem test_row_ed_1 : (words_ed_1.map fun p => opcodeRow p.2) = List.range' 100 26 := by decide
/-- Rows 126 to 151 of spec/opcode_table.json. -/
def words_ed_2 : List (List Byte × Instr) := [
    ([0xED, 0x63, 0x34, 0x12], .ldMemNnRr .hl 0x1234), ([0xED, 0x6B, 0x34, 0x12], .ldRrMemNn .hl 0x1234),
    ([0xED, 0x72], .sbcHlRr .sp), ([0xED, 0x7A], .adcHlRr .sp), ([0xED, 0x73, 0x34, 0x12], .ldMemNnRr .sp 0x1234),
    ([0xED, 0x7B, 0x34, 0x12], .ldRrMemNn .sp 0x1234), ([0xED, 0x44], .neg), ([0xED, 0x4C], .negDup 1),
    ([0xED, 0x54], .negDup 2), ([0xED, 0x5C], .negDup 3), ([0xED, 0x64], .negDup 4), ([0xED, 0x6C], .negDup 5),
    ([0xED, 0x74], .negDup 6), ([0xED, 0x7C], .negDup 7), ([0xED, 0x45], .retn), ([0xED, 0x55], .retnDup 2),
    ([0xED, 0x5D], .retnDup 3), ([0xED, 0x65], .retnDup 4), ([0xED, 0x6D], .retnDup 5), ([0xED, 0x75], .retnDup 6),
    ([0xED, 0x7D], .retnDup 7), ([0xED, 0x4D], .reti), ([0xED, 0x46], .im0), ([0xED, 0x4E], .im0Dup 1),
    ([0xED, 0x66], .im0Dup 4), ([0xED, 0x6E], .im0Dup 5)]
theorem test_decode_ed_2 : words_ed_2.all reads = true := by decide
theorem test_row_ed_2 : (words_ed_2.map fun p => opcodeRow p.2) = List.range' 126 26 := by decide
/-- Rows 152 to 177 of spec/opcode_table.json. -/
def words_ed_3 : List (List Byte × Instr) := [
    ([0xED, 0x56], .im1), ([0xED, 0x76], .im1Dup), ([0xED, 0x5E], .im2), ([0xED, 0x7E], .im2Dup), ([0xED, 0x47], .ldIA),
    ([0xED, 0x4F], .ldRegRA), ([0xED, 0x57], .ldAI), ([0xED, 0x5F], .ldARegR), ([0xED, 0x67], .rrd), ([0xED, 0x6F], .rld),
    ([0xED, 0xA0], .ldi), ([0xED, 0xA8], .ldd), ([0xED, 0xB0], .ldir), ([0xED, 0xB8], .lddr), ([0xED, 0xA1], .cpi),
    ([0xED, 0xA9], .cpd), ([0xED, 0xB1], .cpir), ([0xED, 0xB9], .cpdr), ([0xED, 0xA2], .ini), ([0xED, 0xAA], .ind),
    ([0xED, 0xB2], .inir), ([0xED, 0xBA], .indr), ([0xED, 0xA3], .outi), ([0xED, 0xAB], .outd), ([0xED, 0xB3], .otir),
    ([0xED, 0xBB], .otdr)]
theorem test_decode_ed_3 : words_ed_3.all reads = true := by decide
theorem test_row_ed_3 : (words_ed_3.map fun p => opcodeRow p.2) = List.range' 152 26 := by decide
/-- Rows 178 to 178 of spec/opcode_table.json. -/
def words_ed_4 : List (List Byte × Instr) := [
    ([0xED, 0x77], .unmappedEd 0x77)]
theorem test_decode_ed_4 : words_ed_4.all reads = true := by decide
theorem test_row_ed_4 : (words_ed_4.map fun p => opcodeRow p.2) = List.range' 178 1 := by decide
/-- Rows 179 to 204 of spec/opcode_table.json. -/
def words_index_1 : List (List Byte × Instr) := [
    ([0xFD, 0x09], .addIiBc .iy), ([0xDD, 0x19], .addIiDe .ix), ([0xFD, 0x29], .addIiIi .iy), ([0xDD, 0x39], .addIiSp .ix),
    ([0xFD, 0x21, 0x34, 0x12], .ldIiNn .iy 0x1234), ([0xDD, 0x22, 0x34, 0x12], .ldMemNnIi .ix 0x1234),
    ([0xFD, 0x23], .incIi .iy), ([0xDD, 0x2A, 0x34, 0x12], .ldIiMemNn .ix 0x1234), ([0xFD, 0x2B], .decIi .iy),
    ([0xDD, 0x24], .incIih .ix), ([0xFD, 0x25], .decIih .iy), ([0xDD, 0x26, 0x56], .ldIihN .ix 0x56),
    ([0xFD, 0x2C], .incIil .iy), ([0xDD, 0x2D], .decIil .ix), ([0xFD, 0x2E, 0x56], .ldIilN .iy 0x56),
    ([0xDD, 0x34, 0x85], .incMemIid .ix 0x85), ([0xFD, 0x35, 0x85], .decMemIid .iy 0x85),
    ([0xDD, 0x36, 0x85, 0x56], .ldMemIidN .ix 0x85 0x56), ([0xFD, 0x44], .ldBIih .iy), ([0xDD, 0x45], .ldBIil .ix),
    ([0xFD, 0x46, 0x85], .ldBMemIid .iy 0x85), ([0xDD, 0x4C], .ldCIih .ix), ([0xFD, 0x4D], .ldCIil .iy),
    ([0xDD, 0x4E, 0x85], .ldCMemIid .ix 0x85), ([0xFD, 0x54], .ldDIih .iy), ([0xDD, 0x55], .ldDIil .ix)]
theorem test_decode_index_1 : words_index_1.all reads = true := by decide
theorem test_row_index_1 : (words_index_1.map fun p => opcodeRow p.2) = List.range' 179 26 := by decide
/-- Rows 205 to 230 of spec/opcode_table.json. -/
def words_index_2 : List (List Byte × Instr) := [
    ([0xFD, 0x56, 0x85], .ldDMemIid .iy 0x85), ([0xDD, 0x5C], .ldEIih .ix), ([0xFD, 0x5D], .ldEIil .iy),
    ([0xDD, 0x5E, 0x85], .ldEMemIid .ix 0x85), ([0xFD, 0x60], .ldIihB .iy), ([0xDD, 0x61], .ldIihC .ix),
    ([0xFD, 0x62], .ldIihD .iy), ([0xDD, 0x63], .ldIihE .ix), ([0xFD, 0x64], .ldIihIih .iy), ([0xDD, 0x65], .ldIihIil .ix),
    ([0xFD, 0x66, 0x85], .ldHMemIid .iy 0x85), ([0xDD, 0x67], .ldIihA .ix), ([0xFD, 0x68], .ldIilB .iy),
    ([0xDD, 0x69], .ldIilC .ix), ([0xFD, 0x6A], .ldIilD .iy), ([0xDD, 0x6B], .ldIilE .ix), ([0xFD, 0x6C], .ldIilIih .iy),
    ([0xDD, 0x6D], .ldIilIil .ix), ([0xFD, 0x6E, 0x85], .ldLMemIid .iy 0x85), ([0xDD, 0x6F], .ldIilA .ix),
    ([0xFD, 0x70, 0x85], .ldMemIidB .iy 0x85), ([0xDD, 0x71, 0x85], .ldMemIidC .ix 0x85),
    ([0xFD, 0x72, 0x85], .ldMemIidD .iy 0x85), ([0xDD, 0x73, 0x85], .ldMemIidE .ix 0x85),
    ([0xFD, 0x74, 0x85], .ldMemIidH .iy 0x85), ([0xDD, 0x75, 0x85], .ldMemIidL .ix 0x85)]
theorem test_decode_index_2 : words_index_2.all reads = true := by decide
theorem test_row_index_2 : (words_index_2.map fun p => opcodeRow p.2) = List.range' 205 26 := by decide
/-- Rows 231 to 256 of spec/opcode_table.json. -/
def words_index_3 : List (List Byte × Instr) := [
    ([0xFD, 0x77, 0x85], .ldMemIidA .iy 0x85), ([0xDD, 0x7C], .ldAIih .ix), ([0xFD, 0x7D], .ldAIil .iy),
    ([0xDD, 0x7E, 0x85], .ldAMemIid .ix 0x85), ([0xFD, 0x84], .addAIih .iy), ([0xDD, 0x85], .addAIil .ix),
    ([0xFD, 0x86, 0x85], .addAMemIid .iy 0x85), ([0xDD, 0x8C], .adcAIih .ix), ([0xFD, 0x8D], .adcAIil .iy),
    ([0xDD, 0x8E, 0x85], .adcAMemIid .ix 0x85), ([0xFD, 0x94], .subIih .iy), ([0xDD, 0x95], .subIil .ix),
    ([0xFD, 0x96, 0x85], .subMemIid .iy 0x85), ([0xDD, 0x9C], .sbcAIih .ix), ([0xFD, 0x9D], .sbcAIil .iy),
    ([0xDD, 0x9E, 0x85], .sbcAMemIid .ix 0x85), ([0xFD, 0xA4], .andIih .iy), ([0xDD, 0xA5], .andIil .ix),
    ([0xFD, 0xA6, 0x85], .andMemIid .iy 0x85), ([0xDD, 0xAC], .xorIih .ix), ([0xFD, 0xAD], .xorIil .iy),
    ([0xDD, 0xAE, 0x85], .xorMemIid .ix 0x85), ([0xFD, 0xB4], .orIih .iy), ([0xDD, 0xB5], .orIil .ix),
    ([0xFD, 0xB6, 0x85], .orMemIid .iy 0x85), ([0xDD, 0xBC], .cpIih .ix)]
theorem test_decode_index_3 : words_index_3.all reads = true := by decide
theorem test_row_index_3 : (words_index_3.map fun p => opcodeRow p.2) = List.range' 231 26 := by decide
/-- Rows 257 to 263 of spec/opcode_table.json. -/
def words_index_4 : List (List Byte × Instr) := [
    ([0xFD, 0xBD], .cpIil .iy), ([0xDD, 0xBE, 0x85], .cpMemIid .ix 0x85), ([0xFD, 0xE1], .popIi .iy),
    ([0xDD, 0xE3], .exMemSpIi .ix), ([0xFD, 0xE5], .pushIi .iy), ([0xDD, 0xE9], .jpIi .ix), ([0xFD, 0xF9], .ldSpIi .iy)]
theorem test_decode_index_4 : words_index_4.all reads = true := by decide
theorem test_row_index_4 : (words_index_4.map fun p => opcodeRow p.2) = List.range' 257 7 := by decide
/-- Rows 265 to 285 of spec/opcode_table.json. -/
def words_index_cb_1 : List (List Byte × Instr) := [
    ([0xFD, 0xCB, 0x85, 0x06], .rlcMemIid .iy 0x85), ([0xDD, 0xCB, 0x85, 0x07], .rlcMemIidR .ix 0x85 .a),
    ([0xFD, 0xCB, 0x85, 0x0E], .rrcMemIid .iy 0x85), ([0xDD, 0xCB, 0x85, 0x0D], .rrcMemIidR .ix 0x85 .l),
    ([0xFD, 0xCB, 0x85, 0x16], .rlMemIid .iy 0x85), ([0xDD, 0xCB, 0x85, 0x13], .rlMemIidR .ix 0x85 .e),
    ([0xFD, 0xCB, 0x85, 0x1E], .rrMemIid .iy 0x85), ([0xDD, 0xCB, 0x85, 0x19], .rrMemIidR .ix 0x85 .c),
    ([0xFD, 0xCB, 0x85, 0x26], .slaMemIid .iy 0x85), ([0xDD, 0xCB, 0x85, 0x27], .slaMemIidR .ix 0x85 .a),
    ([0xFD, 0xCB, 0x85, 0x2E], .sraMemIid .iy 0x85), ([0xDD, 0xCB, 0x85, 0x2D], .sraMemIidR .ix 0x85 .l),
    ([0xFD, 0xCB, 0x85, 0x36], .sllMemIid .iy 0x85), ([0xDD, 0xCB, 0x85, 0x33], .sllMemIidR .ix 0x85 .e),
    ([0xFD, 0xCB, 0x85, 0x3E], .srlMemIid .iy 0x85), ([0xDD, 0xCB, 0x85, 0x39], .srlMemIidR .ix 0x85 .c),
    ([0xFD, 0xCB, 0x85, 0x54], .bitBMemIid .iy 0x85 2 4), ([0xDD, 0xCB, 0x85, 0xAE], .resBMemIid .ix 0x85 5),
    ([0xFD, 0xCB, 0x85, 0x82], .resBMemIidR .iy 0x85 0 .d), ([0xDD, 0xCB, 0x85, 0xDE], .setBMemIid .ix 0x85 3),
    ([0xFD, 0xCB, 0x85, 0xF0], .setBMemIidR .iy 0x85 6 .b)]
theorem test_decode_index_cb_1 : words_index_cb_1.all reads = true := by decide
theorem test_row_index_cb_1 : (words_index_cb_1.map fun p => opcodeRow p.2) = List.range' 265 21 := by decide
/-- A DD before a byte that no DD row has is an instruction of one byte (R112). -/
theorem test_decode_lone_prefix : decode [0xDD, 0xEB] = .ok (.lonePrefix .ix, [0xEB]) ∧
    decode [0xFD, 0xDD, 0x21] = .ok (.lonePrefix .iy, [0xDD, 0x21]) ∧ opcodeRow (.lonePrefix .iy) = 264 := by decide
/-- A list that ends inside an instruction is refused by name. -/
theorem test_decode_truncated : decode [] = .error .truncated ∧ decode [0x3E] = .error .truncated ∧
    decode [0xDD] = .error .truncated ∧ decode [0xDD, 0xCB, 0x01] = .error .truncated := by decide
/-- Table words, the first byte in bits 7 to 0, missing operand bytes zero. -/
theorem test_decode_table_word : decodeTableWord 24 0x1234C3 = some (.jpNn 0x1234) ∧ decodeTableWord 8 0xC3 = some (.jpNn 0) ∧
    decodeTableWord 32 0xD885CBFD = some (.setBMemIidR .iy 0x85 3 .b) := by decide

/-! ### One step: vectors of spec/95_test_vectors.md -/

/-- The vectors' start state: reset, PC = 0x0100, the bytes there, and what `setup` adds. -/
def start (bs : List Byte) (setup : State → State) : State := setup ({ State.reset with pc := 0x0100 }.loadProgram bs 0x0100)

/-- One step from a state ends in a next state that passes a check. -/
def after (s : State) (check : State → Bool) : Bool :=
  match step s with
  | .next t => check t
  | _ => false

/-- The documented flags S, Z, H, PV, N, C are those of the byte. -/
def fl (t : State) (v : Byte) : Bool :=
  t.f.s == v.getLsbD 7 && t.f.z == v.getLsbD 6 && t.f.h == v.getLsbD 4 && t.f.pv == v.getLsbD 2 && t.f.n == v.getLsbD 1 &&
    t.f.c == v.getLsbD 0

theorem test_v4_ld_h_mem_hl : after (start [0x66] fun s => { s with h := 0x20, l := 0x00 }.poke 0x2000 0xAB)
    (fun t => t.pc == 0x0101 && t.hl == 0xAB00 && t.r == 0x01 && fl t 0x00 && t.cycles == 7) = true := by decide
theorem test_v14_ld_b_iy_d : after (start [0xFD, 0x46, 0x7F] fun s => { s with iy := 0x4000 }.poke 0x407F 0x11)
    (fun t => t.pc == 0x0103 && t.bc == 0x1100 && t.r == 0x02 && fl t 0x00 && t.cycles == 19) = true := by decide
theorem test_v16_ld_iy_d_n : after (start [0xFD, 0x36, 0x05, 0xEE] fun s => { s with iy := 0x4000 })
    (fun t => t.pc == 0x0104 && t.r == 0x02 && fl t 0x00 && t.peek 0x4005 == 0xEE && t.cycles == 19) = true := by decide
theorem test_v18_ld_iyh_b : after (start [0xFD, 0x60] fun s => { s with iy := 0x1234, b := 0x99 })
    (fun t => t.pc == 0x0102 && t.iy == 0x9934 && t.r == 0x02 && fl t 0x00 && t.cycles == 8) = true := by decide
theorem test_v25_ld_hl_mem_wraps : after (start [0x2A, 0xFF, 0xFF] fun s => (s.poke 0xFFFF 0x01).poke 0x0000 0x02)
    (fun t => t.pc == 0x0103 && t.hl == 0x0201 && t.r == 0x01 && fl t 0x00 && t.cycles == 16) = true := by decide
theorem test_v29_ld_mem_hl_wraps : after (start [0x22, 0xFF, 0xFF] fun s => { s with h := 0xAB, l := 0xCD })
    (fun t => t.pc == 0x0103 && t.r == 0x01 && fl t 0x00 && t.peek 0x0000 == 0xAB && t.peek 0xFFFF == 0xCD &&
    t.cycles == 16) = true := by decide
theorem test_v30_ld_mem_sp : after (start [0xED, 0x73, 0x00, 0x20] fun s => { s with sp := 0x8765 })
    (fun t => t.pc == 0x0104 && t.r == 0x02 && fl t 0x00 && t.peek 0x2000 == 0x65 && t.peek 0x2001 == 0x87 &&
    t.cycles == 20) = true := by decide
theorem test_v35_push_af_wraps : after (start [0xF5] fun s => { s with sp := 0x0000, a := 0x12, f := Flags.ofByte 0xFF })
    (fun t => t.pc == 0x0101 && t.sp == 0xFFFE && t.r == 0x01 && fl t 0xD7 && t.peek 0xFFFE == 0xFF && t.peek 0xFFFF == 0x12 &&
    t.cycles == 11) = true := by decide
theorem test_v39_pop_af : after (start [0xF1] fun s => ({ s with sp := 0x7FFE }.poke 0x7FFE 0xFF).poke 0x7FFF 0x00)
    (fun t => t.pc == 0x0101 && t.sp == 0x8000 && t.r == 0x01 && fl t 0xD7 && t.cycles == 10) = true := by decide
theorem test_v40_ex_af : after (start [0x08] fun s => { s with a := 0x01, f := Flags.ofByte 0x80, aAlt := 0x02, fAlt := Flags.ofByte 0x41 })
    (fun t => t.pc == 0x0101 && t.a == 0x02 && t.r == 0x01 && t.aAlt == 0x01 && t.fAlt == Flags.ofByte 0x80 && fl t 0x41 &&
    t.cycles == 4) = true := by decide
theorem test_v42_exx : after (start [0xD9] fun s => { s with b := 0x11, c := 0x11, d := 0x22, e := 0x22, h := 0x33, l := 0x33, bAlt := 0x44, cAlt := 0x44, dAlt := 0x55, eAlt := 0x55, hAlt := 0x66, lAlt := 0x66 })
    (fun t => t.pc == 0x0101 && t.bc == 0x4444 && t.de == 0x5555 && t.hl == 0x6666 && t.r == 0x01 && t.bAlt == 0x11 &&
    t.cAlt == 0x11 && t.dAlt == 0x22 && t.eAlt == 0x22 && t.hAlt == 0x33 && t.lAlt == 0x33 && fl t 0x00 &&
    t.cycles == 4) = true := by decide
theorem test_v44_ex_sp_hl : after (start [0xE3] fun s => ({ s with sp := 0x8000, h := 0xAB, l := 0xCD }.poke 0x8000 0x34).poke 0x8001 0x12)
    (fun t => t.pc == 0x0101 && t.hl == 0x1234 && t.r == 0x01 && fl t 0x00 && t.peek 0x8000 == 0xCD && t.peek 0x8001 == 0xAB &&
    t.cycles == 19) = true := by decide
theorem test_v48_ldi_wraps : after (start [0xED, 0xA0] fun s => { s with h := 0x40, l := 0x00, d := 0x50, e := 0x00, b := 0x00, c := 0x00, f := Flags.ofByte 0xC1 }.poke 0x4000 0x11)
    (fun t => t.pc == 0x0102 && t.bc == 0xFFFF && t.de == 0x5001 && t.hl == 0x4001 && t.r == 0x02 && fl t 0xC5 &&
    t.peek 0x5000 == 0x11 && t.cycles == 16) = true := by decide
theorem test_v49_ldd : after (start [0xED, 0xA8] fun s => { s with h := 0x40, l := 0x00, d := 0x50, e := 0x00, b := 0x00, c := 0x01 }.poke 0x4000 0x22)
    (fun t => t.pc == 0x0102 && t.bc == 0x0000 && t.de == 0x4FFF && t.hl == 0x3FFF && t.r == 0x02 && fl t 0x00 &&
    t.peek 0x5000 == 0x22 && t.cycles == 16) = true := by decide
theorem test_v51_ldir_repeats : after (start [0xED, 0xB0] fun s => ({ s with h := 0x20, l := 0x00, d := 0x30, e := 0x00, b := 0x00, c := 0x02 }.poke 0x2000 0x01).poke 0x2001 0x02)
    (fun t => t.pc == 0x0100 && t.bc == 0x0001 && t.de == 0x3001 && t.hl == 0x2001 && t.r == 0x02 && fl t 0x04 &&
    t.peek 0x3000 == 0x01 && t.cycles == 21) = true := by decide
theorem test_v54_cpi_borrow : after (start [0xED, 0xA1] fun s => { s with a := 0x10, h := 0x20, l := 0x00, b := 0x00, c := 0x01, f := Flags.ofByte 0x01 }.poke 0x2000 0x01)
    (fun t => t.pc == 0x0102 && t.bc == 0x0000 && t.hl == 0x2001 && t.r == 0x02 && fl t 0x13 &&
    t.cycles == 16) = true := by decide
theorem test_v56_cpd : after (start [0xED, 0xA9] fun s => { s with a := 0x41, h := 0x20, l := 0x00, b := 0x00, c := 0x03 }.poke 0x2000 0x42)
    (fun t => t.pc == 0x0102 && t.bc == 0x0002 && t.hl == 0x1FFF && t.r == 0x02 && fl t 0x96 &&
    t.cycles == 16) = true := by decide
theorem test_v60_add_r : after (start [0x80] fun s => { s with a := 0x0A, b := 0x05 })
    (fun t => t.pc == 0x0101 && t.a == 0x0F && t.r == 0x01 && fl t 0x00 && t.cycles == 4) = true := by decide
theorem test_v63_add_overflow : after (start [0x87] fun s => { s with a := 0x80 })
    (fun t => t.pc == 0x0101 && t.a == 0x00 && t.r == 0x01 && fl t 0x45 && t.cycles == 4) = true := by decide
theorem test_v68_adc_a : after (start [0x8F] fun s => { s with a := 0xFF, f := Flags.ofByte 0x01 })
    (fun t => t.pc == 0x0101 && t.r == 0x01 && fl t 0x91 && t.cycles == 4) = true := by decide
theorem test_v70_sub_overflow : after (start [0xD6, 0x01] fun s => { s with a := 0x80 })
    (fun t => t.pc == 0x0102 && t.a == 0x7F && t.r == 0x01 && fl t 0x16 && t.cycles == 7) = true := by decide
theorem test_v75_sbc_borrow : after (start [0xDE, 0x01] fun s => { s with a := 0x10, f := Flags.ofByte 0x01 })
    (fun t => t.pc == 0x0102 && t.a == 0x0E && t.r == 0x01 && fl t 0x12 && t.cycles == 7) = true := by decide
theorem test_v77_and_zero : after (start [0xA0] fun s => { s with a := 0xF0, b := 0x0F, f := Flags.ofByte 0x01 })
    (fun t => t.pc == 0x0101 && t.a == 0x00 && t.r == 0x01 && fl t 0x54 && t.cycles == 4) = true := by decide
theorem test_v79_xor : after (start [0xEE, 0xFF] fun s => { s with a := 0x0F })
    (fun t => t.pc == 0x0102 && t.a == 0xF0 && t.r == 0x01 && fl t 0x84 && t.cycles == 7) = true := by decide
theorem test_v81_or_mem : after (start [0xB6] fun s => { s with a := 0x00, h := 0x20, l := 0x00 }.poke 0x2000 0x80)
    (fun t => t.pc == 0x0101 && t.a == 0x80 && t.r == 0x01 && fl t 0x80 && t.cycles == 7) = true := by decide
theorem test_v84_cp_overflow : after (start [0xFE, 0x01] fun s => { s with a := 0x80 })
    (fun t => t.pc == 0x0102 && t.r == 0x01 && fl t 0x16 && t.cycles == 7) = true := by decide
theorem test_v87_inc_overflow : after (start [0x0C] fun s => { s with c := 0x7F })
    (fun t => t.pc == 0x0101 && t.bc == 0x0080 && t.r == 0x01 && fl t 0x94 && t.cycles == 4) = true := by decide
theorem test_v91_inc_ixl : after (start [0xDD, 0x2C] fun s => { s with ix := 0x00FF })
    (fun t => t.pc == 0x0102 && t.ix == 0x0000 && t.r == 0x02 && fl t 0x50 && t.cycles == 8) = true := by decide
theorem test_v95_dec_overflow : after (start [0x0D] fun s => { s with c := 0x80 })
    (fun t => t.pc == 0x0101 && t.bc == 0x007F && t.r == 0x01 && fl t 0x16 && t.cycles == 4) = true := by decide
theorem test_v98_dec_mem_iy : after (start [0xFD, 0x35, 0x00] fun s => { s with iy := 0x2000 }.poke 0x2000 0x01)
    (fun t => t.pc == 0x0103 && t.r == 0x02 && fl t 0x42 && t.peek 0x2000 == 0x00 && t.cycles == 23) = true := by decide
theorem test_v100_daa_add : after (start [0x27] fun s => { s with a := 0x9A, f := Flags.ofByte 0x10 })
    (fun t => t.pc == 0x0101 && t.a == 0x00 && t.r == 0x01 && fl t 0x55 && t.cycles == 4) = true := by decide
theorem test_v106_daa_sub : after (start [0x27] fun s => { s with a := 0xFA, f := Flags.ofByte 0x03 })
    (fun t => t.pc == 0x0101 && t.a == 0x94 && t.r == 0x01 && fl t 0x83 && t.cycles == 4) = true := by decide
theorem test_v109_cpl : after (start [0x2F] fun s => { s with a := 0x5A })
    (fun t => t.pc == 0x0101 && t.a == 0xA5 && t.r == 0x01 && fl t 0x12 && t.cycles == 4) = true := by decide
theorem test_v111_neg_80 : after (start [0xED, 0x44] fun s => { s with a := 0x80 })
    (fun t => t.pc == 0x0102 && t.r == 0x02 && fl t 0x87 && t.cycles == 8) = true := by decide
theorem test_v113_neg_duplicate : after (start [0xED, 0x7C] fun s => { s with a := 0x10 })
    (fun t => t.pc == 0x0102 && t.a == 0xF0 && t.r == 0x02 && fl t 0x83 && t.cycles == 8) = true := by decide
theorem test_v114_ccf : after (start [0x3F] fun s => { s with f := Flags.ofByte 0x01 })
    (fun t => t.pc == 0x0101 && t.r == 0x01 && fl t 0x10 && t.cycles == 4) = true := by decide
theorem test_v116_scf : after (start [0x37] fun s => { s with f := Flags.ofByte 0x12 })
    (fun t => t.pc == 0x0101 && t.r == 0x01 && fl t 0x01 && t.cycles == 4) = true := by decide
theorem test_v118_add_hl_sp : after (start [0x39] fun s => { s with h := 0xFF, l := 0xFF, sp := 0x0001, f := Flags.ofByte 0x44 })
    (fun t => t.pc == 0x0101 && t.hl == 0x0000 && t.r == 0x01 && fl t 0x55 && t.cycles == 11) = true := by decide
theorem test_v120_add_ix_ix : after (start [0xDD, 0x29] fun s => { s with ix := 0x4000 })
    (fun t => t.pc == 0x0102 && t.ix == 0x8000 && t.r == 0x02 && fl t 0x00 && t.cycles == 15) = true := by decide
theorem test_v122_adc_hl : after (start [0xED, 0x4A] fun s => { s with h := 0x7F, l := 0xFF, b := 0x00, c := 0x00, f := Flags.ofByte 0x01 })
    (fun t => t.pc == 0x0102 && t.hl == 0x8000 && t.r == 0x02 && fl t 0x94 && t.cycles == 15) = true := by decide
theorem test_v126_sbc_hl : after (start [0xED, 0x52] fun s => { s with h := 0x80, l := 0x00, d := 0x00, e := 0x01 })
    (fun t => t.pc == 0x0102 && t.hl == 0x7FFF && t.r == 0x02 && fl t 0x16 && t.cycles == 15) = true := by decide
theorem test_v128_inc_sp : after (start [0x33] fun s => { s with sp := 0xFFFF, f := Flags.ofByte 0xFF })
    (fun t => t.pc == 0x0101 && t.sp == 0x0000 && t.r == 0x01 && fl t 0xD7 && t.cycles == 6) = true := by decide
theorem test_v131_dec_iy : after (start [0xFD, 0x2B] fun s => { s with iy := 0x0000 })
    (fun t => t.pc == 0x0102 && t.iy == 0xFFFF && t.r == 0x02 && fl t 0x00 && t.cycles == 10) = true := by decide
theorem test_v132_rlca : after (start [0x07] fun s => { s with a := 0x81, f := Flags.ofByte 0xC4 })
    (fun t => t.pc == 0x0101 && t.a == 0x03 && t.r == 0x01 && fl t 0xC5 && t.cycles == 4) = true := by decide
theorem test_v133_rrca : after (start [0x0F] fun s => { s with a := 0x01 })
    (fun t => t.pc == 0x0101 && t.a == 0x80 && t.r == 0x01 && fl t 0x01 && t.cycles == 4) = true := by decide
theorem test_v135_rla : after (start [0x17] fun s => { s with a := 0x00, f := Flags.ofByte 0x01 })
    (fun t => t.pc == 0x0101 && t.a == 0x01 && t.r == 0x01 && fl t 0x00 && t.cycles == 4) = true := by decide
theorem test_v137_rra : after (start [0x1F] fun s => { s with a := 0x00, f := Flags.ofByte 0x01 })
    (fun t => t.pc == 0x0101 && t.a == 0x80 && t.r == 0x01 && fl t 0x00 && t.cycles == 4) = true := by decide
theorem test_v138_rlc : after (start [0xCB, 0x00] fun s => { s with b := 0x80 })
    (fun t => t.pc == 0x0102 && t.bc == 0x0100 && t.r == 0x02 && fl t 0x01 && t.cycles == 8) = true := by decide
theorem test_v140_rrc_mem : after (start [0xCB, 0x0E] fun s => { s with h := 0x20, l := 0x00 }.poke 0x2000 0x01)
    (fun t => t.pc == 0x0102 && t.r == 0x02 && fl t 0x81 && t.peek 0x2000 == 0x80 && t.cycles == 15) = true := by decide
theorem test_v141_rl : after (start [0xCB, 0x12] fun s => { s with d := 0x80, f := Flags.ofByte 0x00 })
    (fun t => t.pc == 0x0102 && t.de == 0x0000 && t.r == 0x02 && fl t 0x45 && t.cycles == 8) = true := by decide
theorem test_v142_rr : after (start [0xCB, 0x1B] fun s => { s with e := 0x01, f := Flags.ofByte 0x01 })
    (fun t => t.pc == 0x0102 && t.de == 0x0080 && t.r == 0x02 && fl t 0x81 && t.cycles == 8) = true := by decide
theorem test_v143_sla : after (start [0xCB, 0x24] fun s => { s with h := 0xC0 })
    (fun t => t.pc == 0x0102 && t.hl == 0x8000 && t.r == 0x02 && fl t 0x81 && t.cycles == 8) = true := by decide
theorem test_v144_sra : after (start [0xCB, 0x2D] fun s => { s with l := 0x81 })
    (fun t => t.pc == 0x0102 && t.hl == 0x00C0 && t.r == 0x02 && fl t 0x85 && t.cycles == 8) = true := by decide
theorem test_v145_sll : after (start [0xCB, 0x37] fun s => { s with a := 0x00 })
    (fun t => t.pc == 0x0102 && t.a == 0x01 && t.r == 0x02 && fl t 0x00 && t.cycles == 8) = true := by decide
theorem test_v150_srl_copy : after (start [0xFD, 0xCB, 0xFF, 0x3F] fun s => { s with iy := 0x2001 }.poke 0x2000 0x02)
    (fun t => t.pc == 0x0104 && t.a == 0x01 && t.r == 0x02 && fl t 0x00 && t.peek 0x2000 == 0x01 &&
    t.cycles == 23) = true := by decide
theorem test_v151_rld : after (start [0xED, 0x6F] fun s => { s with a := 0x12, h := 0x20, l := 0x00 }.poke 0x2000 0x34)
    (fun t => t.pc == 0x0102 && t.a == 0x13 && t.r == 0x02 && fl t 0x00 && t.peek 0x2000 == 0x42 &&
    t.cycles == 18) = true := by decide
theorem test_v152_rrd : after (start [0xED, 0x67] fun s => { s with a := 0x12, h := 0x20, l := 0x00 }.poke 0x2000 0x34)
    (fun t => t.pc == 0x0102 && t.a == 0x14 && t.r == 0x02 && fl t 0x04 && t.peek 0x2000 == 0x23 &&
    t.cycles == 18) = true := by decide
theorem test_v154_bit_7 : after (start [0xCB, 0x7F] fun s => { s with a := 0x80 })
    (fun t => t.pc == 0x0102 && t.r == 0x02 && fl t 0x90 && t.cycles == 8) = true := by decide
theorem test_v159_bit_alias : after (start [0xDD, 0xCB, 0x00, 0x78] fun s => { s with ix := 0x2000 }.poke 0x2000 0x00)
    (fun t => t.pc == 0x0104 && t.r == 0x02 && fl t 0x54 && t.cycles == 20) = true := by decide
theorem test_v161_res_mem : after (start [0xCB, 0xBE] fun s => { s with h := 0x20, l := 0x00 }.poke 0x2000 0xFF)
    (fun t => t.pc == 0x0102 && t.r == 0x02 && fl t 0x00 && t.peek 0x2000 == 0x7F && t.cycles == 15) = true := by decide
theorem test_v167_set_copy : after (start [0xFD, 0xCB, 0x02, 0xDA] fun s => { s with iy := 0x2000 }.poke 0x2002 0x01)
    (fun t => t.pc == 0x0104 && t.de == 0x0900 && t.r == 0x02 && fl t 0x00 && t.peek 0x2002 == 0x09 &&
    t.cycles == 23) = true := by decide
theorem test_v169_jp_z : after (start [0xCA, 0x00, 0x20] fun s => { s with f := Flags.ofByte 0x40 })
    (fun t => t.pc == 0x2000 && t.r == 0x01 && fl t 0x40 && t.cycles == 10) = true := by decide
theorem test_v174_jp_iy : after (start [0xFD, 0xE9] fun s => { s with iy := 0x4321 })
    (fun t => t.pc == 0x4321 && t.r == 0x02 && fl t 0x00 && t.cycles == 8) = true := by decide
theorem test_v177_jr_back : after (start [0x18, 0x80] id)
    (fun t => t.pc == 0x0082 && t.r == 0x01 && fl t 0x00 && t.cycles == 12) = true := by decide
theorem test_v180_jr_c : after (start [0x38, 0xFC] fun s => { s with f := Flags.ofByte 0x01 })
    (fun t => t.pc == 0x00FE && t.r == 0x01 && fl t 0x01 && t.cycles == 12) = true := by decide
theorem test_v183_djnz_wraps : after (start [0x10, 0xFE] fun s => { s with b := 0x00 })
    (fun t => t.pc == 0x0100 && t.bc == 0xFF00 && t.r == 0x01 && fl t 0x00 && t.cycles == 13) = true := by decide
theorem test_v184_call : after (start [0xCD, 0x00, 0x20] fun s => { s with sp := 0x8000 })
    (fun t => t.pc == 0x2000 && t.sp == 0x7FFE && t.r == 0x01 && fl t 0x00 && t.peek 0x7FFE == 0x03 && t.peek 0x7FFF == 0x01 &&
    t.cycles == 17) = true := by decide
theorem test_v186_call_c : after (start [0xDC, 0x00, 0x20] fun s => { s with sp := 0x8000, f := Flags.ofByte 0x01 })
    (fun t => t.pc == 0x2000 && t.sp == 0x7FFE && t.r == 0x01 && fl t 0x01 && t.peek 0x7FFE == 0x03 && t.peek 0x7FFF == 0x01 &&
    t.cycles == 17) = true := by decide
theorem test_v189_ret_m : after (start [0xF8] fun s => ({ s with sp := 0x7FFE, f := Flags.ofByte 0x80 }.poke 0x7FFE 0x03).poke 0x7FFF 0x01)
    (fun t => t.pc == 0x0103 && t.sp == 0x8000 && t.r == 0x01 && fl t 0x80 && t.cycles == 11) = true := by decide
theorem test_v190_rst : after (start [0xEF] fun s => { s with sp := 0x8000 })
    (fun t => t.pc == 0x0028 && t.sp == 0x7FFE && t.r == 0x01 && fl t 0x00 && t.peek 0x7FFE == 0x01 && t.peek 0x7FFF == 0x01 &&
    t.cycles == 11) = true := by decide
theorem test_v192_retn : after (start [0xED, 0x45] fun s => ({ s with sp := 0x7FFE, iff1 := false, iff2 := true }.poke 0x7FFE 0x00).poke 0x7FFF 0x30)
    (fun t => t.pc == 0x3000 && t.sp == 0x8000 && t.r == 0x02 && t.iff1 == true && fl t 0x00 &&
    t.cycles == 14) = true := by decide
theorem test_v193_retn_duplicate : after (start [0xED, 0x55] fun s => ({ s with sp := 0x7FFE, iff1 := true, iff2 := false }.poke 0x7FFE 0x00).poke 0x7FFF 0x30)
    (fun t => t.pc == 0x3000 && t.sp == 0x8000 && t.r == 0x02 && t.iff1 == false && fl t 0x00 &&
    t.cycles == 14) = true := by decide
theorem test_v194_reti : after (start [0xED, 0x4D] fun s => ({ s with sp := 0x7FFE, iff1 := false, iff2 := true }.poke 0x7FFE 0x00).poke 0x7FFF 0x30)
    (fun t => t.pc == 0x3000 && t.sp == 0x8000 && t.r == 0x02 && t.iff1 == true && fl t 0x00 &&
    t.cycles == 14) = true := by decide
theorem test_v196_halt : after (start [0x76] id)
    (fun t => t.pc == 0x0101 && t.r == 0x01 && t.halted == true && fl t 0x00 && t.cycles == 4) = true := by decide
theorem test_v198_di : after (start [0xF3] fun s => { s with iff1 := true, iff2 := true })
    (fun t => t.pc == 0x0101 && t.r == 0x01 && t.iff1 == false && t.iff2 == false && fl t 0x00 &&
    t.cycles == 4) = true := by decide
theorem test_v200_im2 : after (start [0xED, 0x5E] id)
    (fun t => t.pc == 0x0102 && t.r == 0x02 && t.im == 2 && fl t 0x00 && t.cycles == 8) = true := by decide
theorem test_v202_im0_duplicate : after (start [0xED, 0x4E] fun s => { s with im := 2 })
    (fun t => t.pc == 0x0102 && t.r == 0x02 && t.im == 0 && fl t 0x00 && t.cycles == 8) = true := by decide
theorem test_v204_ld_a_i : after (start [0xED, 0x57] fun s => { s with i := 0x80, iff2 := true, f := Flags.ofByte 0x01 })
    (fun t => t.pc == 0x0102 && t.a == 0x80 && t.r == 0x02 && fl t 0x85 && t.cycles == 9) = true := by decide
theorem test_v206_ld_r_a : after (start [0xED, 0x4F] fun s => { s with a := 0xFF })
    (fun t => t.pc == 0x0102 && t.r == 0xFF && fl t 0x00 && t.cycles == 9) = true := by decide
theorem test_v208_ld_a_r_wraps : after (start [0xED, 0x5F] fun s => { s with r := 0xFF, iff2 := true })
    (fun t => t.pc == 0x0102 && t.a == 0x81 && t.r == 0x81 && fl t 0x84 && t.cycles == 9) = true := by decide
theorem test_v210_out_n : after (start [0xD3, 0x99] fun s => { s with a := 0x40 })
    (fun t => t.pc == 0x0102 && t.r == 0x01 && fl t 0x00 && t.cycles == 11 && t.io == [.output 0x4099 0x40]) = true := by decide
theorem test_v214_out_c_a : after (start [0xED, 0x79] fun s => { s with b := 0x10, c := 0xFE, a := 0x33 })
    (fun t => t.pc == 0x0102 && t.r == 0x02 && fl t 0x00 && t.cycles == 12 && t.io == [.output 0x10FE 0x33]) = true := by decide
theorem test_v215_out_c_0 : after (start [0xED, 0x71] fun s => { s with b := 0x10, c := 0xFE })
    (fun t => t.pc == 0x0102 && t.r == 0x02 && fl t 0x00 && t.cycles == 12 && t.io == [.output 0x10FE 0x00]) = true := by decide
theorem test_v221_outi : after (start [0xED, 0xA3] fun s => { s with b := 0x02, c := 0x10, h := 0x20, l := 0x00 }.poke 0x2000 0x5A)
    (fun t => t.pc == 0x0102 && t.bc == 0x0110 && t.hl == 0x2001 && t.r == 0x02 && t.f.z == false && t.f.n == true &&
    t.f.c == false && t.cycles == 16 && t.io == [.output 0x0110 0x5A]) = true := by decide
theorem test_v229_unmapped_ed : after (start [0xED, 0x00] id)
    (fun t => t.pc == 0x0102 && t.r == 0x02 && fl t 0x00 && t.cycles == 8 &&
    t.diag == [.unknownOpcode 0x0100 0xED 0x00]) = true := by decide
theorem test_v231_int_mode1 : after (start [0x00] fun s => { s with sp := 0x8000, iff1 := true, iff2 := true, im := 1, intPending := true })
    (fun t => t.pc == 0x0038 && t.sp == 0x7FFE && t.r == 0x01 && t.iff1 == false && fl t 0x00 && t.peek 0x7FFE == 0x01 &&
    t.peek 0x7FFF == 0x01 && t.cycles == 17) = true := by decide
theorem test_v233_int_mode2 : after (start [0x00] fun s => ({ s with sp := 0x8000, iff1 := true, iff2 := true, im := 2, i := 0x20, intPending := true }.poke 0x2000 0x34).poke 0x2001 0x12)
    (fun t => t.pc == 0x1234 && t.sp == 0x7FFE && t.r == 0x01 && t.iff1 == false && fl t 0x00 && t.peek 0x7FFE == 0x01 &&
    t.peek 0x7FFF == 0x01 && t.cycles == 23) = true := by decide
theorem test_v236_ei_delay : after (start [0xFB, 0x00] fun s => { s with sp := 0x8000, im := 1, intPending := true })
    (fun t => t.pc == 0x0101 && t.r == 0x01 && t.iff1 == true && t.iff2 == true && fl t 0x00 && t.cycles == 4 &&
    t.intPending == true) = true := by decide
theorem test_v238_ei_no_delay : after (start [0xFB, 0x00] fun s => { s with sp := 0x8000, im := 1, intPending := true, params := { Params.default with eiDelay := false } })
    (fun t => t.pc == 0x0038 && t.sp == 0x7FFE && t.r == 0x01 && t.iff2 == true && fl t 0x00 && t.peek 0x7FFE == 0x01 &&
    t.peek 0x7FFF == 0x01 && t.cycles == 17) = true := by decide
theorem test_v239_nmi : after (start [0x00] fun s => { s with sp := 0x8000, iff1 := true, iff2 := true, nmiPending := true })
    (fun t => t.pc == 0x0066 && t.sp == 0x7FFE && t.r == 0x01 && t.iff1 == false && fl t 0x00 && t.peek 0x7FFE == 0x01 &&
    t.peek 0x7FFF == 0x01 && t.cycles == 15) = true := by decide
theorem test_v241_nmi_first : after (start [0x00] fun s => { s with sp := 0x8000, iff1 := true, iff2 := true, im := 1, nmiPending := true, intPending := true })
    (fun t => t.pc == 0x0066 && t.sp == 0x7FFE && t.r == 0x01 && t.iff1 == false && fl t 0x00 && t.peek 0x7FFE == 0x01 &&
    t.peek 0x7FFF == 0x01 && t.cycles == 15 && t.intPending == true) = true := by decide
theorem test_v242_lone_prefix_boundary : after (start [0xDD, 0x00] fun s => { s with sp := 0x8000, iff1 := true, iff2 := true, im := 1, nmiPending := true })
    (fun t => t.pc == 0x0101 && t.r == 0x01 && fl t 0x00 && t.cycles == 4 && t.nmiPending == true) = true := by decide

/-! ### A `CYCLE_TABLE` other than the default (00_scope.md R8, D14) -/

/-- ED 6B and 2A are two rows of LD HL,(nn); this table prices the ED one, the halted step, the NMI and a repeat that goes on. -/
def costly : CycleTable := [(.form 127, 50, 50), (.haltedStep, 60, 60), (.nmi, 70, 70), (.form 20, 80, 81)]

/-- The state with that table. -/
def priced (s : State) : State := { s with params := { s.params with costs := costly } }

theorem test_costs_row : after (start [0xED, 0x6B, 0x00, 0x02] priced) (fun t => t.cycles == 50) = true ∧
    after (start [0x2A, 0x00, 0x02] priced) (fun t => t.cycles == 16) = true := by decide
theorem test_costs_taken : after (start [0x10, 0x02] fun s => priced { s with b := 2 }) (fun t => t.cycles == 80) = true ∧
    after (start [0x10, 0x02] fun s => priced { s with b := 1 }) (fun t => t.cycles == 81) = true := by decide
theorem test_costs_halted : after (start [0x00] fun s => priced { s with halted := true }) (fun t => t.cycles == 60) = true ∧
    after (start [0x00] fun s => priced { s with nmiPending := true }) (fun t => t.cycles == 74) = true := by decide

/-! ### A failed access (20_memory.md R68, 60_exceptions.md R431, R432) -/

/-- A state under `MEM_FAULT = true`. -/
def fallible : State := { State.reset with params := { Params.default with memFault := true } }

/-- If the first access fails, the step ends there: the address, and the event last in the diagnostic output. -/
theorem test_memory_fault (h : Config.accessFails 0 0x0000 = true) :
    step fallible = .fault (.memFault 0x0000 { fallible with diag := [.memFault 0x0000] }) := by
  have e : access 0x0000 fallible = .fault (.memFault 0x0000 { fallible with diag := [.memFault 0x0000] }) := by
    rw [access, if_pos (by rfl), if_pos (by exact h)]; rfl
  exact congrArg (andThen · fun t => andThen (exec .nop (t.advance .nop)) (interruptCheck false)) e

/-! ### Witnesses: a concrete state and operands that meet an obligation's hypotheses -/

/-- The halted core. -/
def halted : State := { State.reset with halted := true, sp := 0x8000, pc := 0x0101 }

/-- A core with a maskable interrupt that can be accepted in mode `m`. -/
def pendingInt (m : BitVec 2) : State := { State.reset with iff1 := true, iff2 := true, im := m, intPending := true, sp := 0x0001 }

/-- A core with a pending NMI. -/
def pendingNmi : State := { State.reset with nmiPending := true, iff1 := true, iff2 := true, sp := 0x0001 }

theorem witness_DecodeOfEncode : (Instr.callNn 0xFFFF).wf = true ∧ (∀ ii, Instr.callNn 0xFFFF = .lonePrefix ii →
    ∃ b tl, ([] : List Byte) = b :: tl ∧ isIndexed b = false) := by
  refine ⟨by decide, fun ii h => ?_⟩
  cases h
theorem witness_DecodeOfEncode_lone_prefix : (Instr.lonePrefix .iy).wf = true ∧ ∀ ii, Instr.lonePrefix .iy = .lonePrefix ii →
    ∃ b tl, [(0xFD : Byte)] = b :: tl ∧ isIndexed b = false :=
  ⟨by decide, fun _ _ => ⟨0xFD, [], rfl, by decide⟩⟩
theorem witness_StepKeepsLegal : State.reset.legal = true ∧ ∃ t, step State.reset = .next t := ⟨by decide, _, rfl⟩
theorem witness_StepRunsDecoded : State.reset.halted = false ∧ State.reset.params.memFault = false ∧
    decode [State.reset.peek State.reset.pc, State.reset.peek (State.reset.pc + 1), State.reset.peek (State.reset.pc + 2),
      State.reset.peek (State.reset.pc + 3)] = .ok (.nop, [0, 0, 0]) := by decide
theorem witness_HaltedStep : halted.halted = true ∧ halted.nmiPending = false ∧ (halted.iff1 && halted.intPending) = false := by decide
theorem witness_HaltedStep_nmi : { halted with nmiPending := true }.halted = true ∧ halted.params.memFault = false := by decide
theorem witness_HaltedStep_int : let s := { halted with iff1 := true, iff2 := true, intPending := true, im := 1 }
    s.halted = true ∧ s.params.memFault = false ∧ s.nmiPending = false ∧ s.iff1 = true ∧ s.intPending = true ∧ s.im = 1 := by decide
theorem witness_StepNeverStops : State.reset.params.memFault = false := rfl
theorem witness_StepStopsOnlyByMemFault : fallible.params.memFault = true := rfl
theorem witness_StepCost : State.reset.imLegal = true ∧ State.reset.halted = false ∧ ∃ t, step State.reset = .next t :=
  ⟨by decide, rfl, _, rfl⟩
theorem witness_StepCost_halted : halted.imLegal = true ∧ halted.halted = true ∧ ∃ t, step halted = .next t := ⟨by decide, rfl, _, rfl⟩
theorem witness_TracesOnlyGrow : ∃ t, step (start [0xED, 0x00] id) = .next t ∧ t.diag = [.unknownOpcode 0x0100 0xED 0x00] :=
  ⟨_, rfl, by decide⟩
theorem witness_PendingBitLifetime_int : ∃ t, step (pendingInt 1) = .next t ∧ (pendingInt 1).intPending = true ∧ t.intPending = false :=
  ⟨_, rfl, by decide, by decide⟩
theorem witness_PendingBitLifetime_nmi : ∃ t, step pendingNmi = .next t ∧ pendingNmi.nmiPending = true ∧ t.nmiPending = false :=
  ⟨_, rfl, by decide, by decide⟩
theorem witness_PendingBitLifetime_kept : ∃ t, step { State.reset with intPending := true } = .next t ∧ t.intPending = true :=
  ⟨_, rfl, by decide⟩
theorem witness_ControlStateWriters : (∃ t, exec .nop halted = .next t) ∧ writesIm .nop = false ∧ writesIff1 .nop = false ∧
    Instr.nop ≠ .di ∧ Instr.nop ≠ .ei ∧ Instr.nop ≠ .ldIA ∧ Instr.nop ≠ .ldRegRA ∧ Instr.nop ≠ .halt := ⟨⟨_, rfl⟩, by decide⟩
theorem witness_ShadowIndexAndIoWriters : (∃ t, exec (.incRr .hl) pendingNmi = .next t) ∧ Instr.incRr .hl ≠ .exAfAf ∧
    Instr.incRr .hl ≠ .exx ∧ (encode (.incRr .hl)).head? ≠ some Idx.ix.byte ∧ doesIo (.incRr .hl) = false := ⟨⟨_, rfl⟩, by decide⟩
theorem witness_PairsHalvesAndAddresses : Pair.hl ≠ Pair.sp := by decide
theorem witness_ReadAfterWrite : State.reset.params.memFault = false ∧ (0x0001 : Word) ∉ wordBytes 0xFFFF ∧
    (0x0000 : Word) ∈ wordBytes 0xFFFF := by decide
theorem witness_memory_statements : (start [0x3E, 0xFF] id).params.memFault = false ∧ pendingNmi.params.memFault = false ∧
    halted.params.memFault = false := by decide
theorem witness_StackRoundTrips : ∃ t, exec (.pushQq .af) pendingNmi = .next t ∧ t.sp = 0xFFFF ∧ t.params.memFault = false ∧
    StackPair.bc ≠ .af := ⟨_, rfl, by decide, by decide, by decide⟩
theorem witness_DecimalArithmetic : bcd 0x00 = some 0 ∧ bcd 0x99 = some 99 ∧ bcd 0x9A = none ∧ bcd 0xA0 = none := by decide
theorem witness_AccumulatorAdjustments : (Instr.negDup 1).wf = true ∧ (Instr.negDup 7).wf = true := by decide
theorem witness_Jumps : Cond.nz.isShort = true ∧ Cond.c.isShort = true := by decide
theorem witness_Calls : State.reset.cond .nz = true ∧ State.reset.cond .m = false ∧ State.reset.params.memFault = false := by decide
theorem witness_Returns : (Instr.retnDup 2).wf = true ∧ (Instr.retnDup 7).wf = true ∧ State.reset.cond .po = true ∧
    State.reset.cond .pe = false ∧ State.reset.params.memFault = false := by decide
theorem witness_CpuControl : (Instr.im0Dup 1).wf = true ∧ (Instr.im0Dup 5).wf = true ∧ (Instr.unmappedEd 0x00).wf = true ∧
    (Instr.unmappedEd 0xFF).wf = true := by decide
theorem witness_NmiAcceptance : pendingNmi.params.memFault = false ∧ pendingNmi.nmiPending = true ∧
    pendingNmi.intBlock ≠ .afterPrefix := by decide
theorem witness_MaskableAcceptance : let s := pendingInt 2
    s.params.memFault = false ∧ s.nmiPending = false ∧ s.iff1 = true ∧ s.intPending = true ∧ s.intBlock ≠ .afterPrefix ∧
      ¬(s.intBlock = .afterEI ∧ s.params.eiDelay = true) ∧ s.imLegal = true := by decide
theorem witness_MaskableAcceptance_mode0 : (pendingInt 0).imLegal = true ∧ (pendingInt 0).im = 0 := by decide
theorem witness_MaskableAcceptance_invalid : let s := pendingInt 3
    s.nmiPending = false ∧ s.iff1 = true ∧ s.intPending = true ∧ s.intBlock = .none ∧ s.im = 3 := by decide
theorem witness_InterruptBoundaries_prefix : { pendingNmi with intBlock := .afterPrefix }.intBlock = .afterPrefix := rfl
theorem witness_InterruptBoundaries_ei : let s := { pendingInt 1 with intBlock := .afterEI }
    s.intBlock = .afterEI ∧ s.params.eiDelay = true ∧ s.nmiPending = false := by decide
theorem witness_InterruptBoundaries_no_delay :
    let s := { pendingInt 1 with intBlock := .afterEI, params := { Params.default with eiDelay := false } }
    s.intBlock = .afterEI ∧ s.params.eiDelay = false ∧ s.params.memFault = false ∧ s.nmiPending = false ∧ s.iff1 = true ∧
      s.intPending = true ∧ s.imLegal = true := by decide
theorem witness_InterruptBoundaries_nmi : let s := { pendingNmi with intBlock := .afterEI }
    s.intBlock = .afterEI ∧ s.params.memFault = false ∧ s.nmiPending = true := by decide
theorem witness_InterruptBoundaries_masked : let s := { State.reset with intPending := true }
    s.nmiPending = false ∧ (s.iff1 && s.intPending) = false := by decide
theorem witness_InterruptBoundaries_ei_step : let s := start [0xFB] fun s => { s with intPending := true }
    s.halted = false ∧ s.params.memFault = false ∧ s.params.eiDelay = true ∧ s.nmiPending = false ∧ s.peek s.pc = 0xFB := by decide
theorem witness_InterruptBoundaries_prefix_step : let s := start [0xDD, 0xFD] fun s => { s with nmiPending := true }
    s.halted = false ∧ s.params.memFault = false ∧ s.peek s.pc = 0xDD ∧ isIndexed (s.peek (s.pc + 1)) = false := by decide
theorem witness_InterruptRoundTrip : let s := pendingNmi
    s.params.memFault = false ∧ s.iffLegal = true ∧ s.imLegal = true ∧ s.intBlock = .none ∧ s.nmiPending = true := by decide
theorem witness_InterruptRoundTrip_int : let s := pendingInt 2
    s.params.memFault = false ∧ s.iffLegal = true ∧ s.imLegal = true ∧ s.intBlock = .none ∧ s.iff1 = true ∧ s.intPending = true := by
  decide
theorem witness_HostActions : State.reset.params.memFault = false ∧ ([0x3E, 0x0A] : List Byte).length ≤ 65536 ∧
    (0x0002 : Word) ≠ 0xFFFF + BitVec.ofNat 16 1 := by decide
theorem witness_HostChoices : fallible.params.memFault = true ∧ (fallible.loadProgram [0x3E, 0x0A] 0xFFFF).peek 0x0000 = 0x0A ∧
    (fallible.hostWrite 0x1234 0x56).peek 0x1234 = 0x56 := by decide

end Sys2Proof.Tests
end

section
/-! PROOFS. What an instruction is made of, and what follows from it for every instruction at once: `exec_cases` and `exec_keeps` for one
run, `Meaning.follows` for two. -/

namespace Sys2Proof.Machine

/-! ### The state under other costs -/

/-- The state with `c` more T-states and another `CYCLE_TABLE`. -/
def State.priced (s : State) (c : BitVec 64) (table : CycleTable) : State :=
  { s with cycles := s.cycles + c, params := { s.params with costs := table } }

/-- A value read from the state that neither T-states nor `CYCLE_TABLE` can change. -/
def CostFree {α : Sort _} (g : State → α) : Prop := ∀ s c table, g (s.priced c table) = g s

/-! ### What an instruction is made of -/

/-- The updates an instruction may make, each with its operand fixed.  Those of the control state, the shadow set, the index registers and
the I/O history are open only to the instructions the spec names (10_state.md R23, R27, R33 to R36; 20_memory.md R70). -/
inductive Update (i : Instr) : (State → State) → Prop
  | drawn (n : Nat) : Update i (·.drawn n)
  | set8 (r : Reg8) (v : Byte) : Update i (·.set8 r v)
  | set16 (p : Pair) (v : Word) : Update i (·.set16 p v)
  | setQQ (q : StackPair) (v : Word) : Update i (·.setQQ q v)
  | setIdx (ii : Idx) (v : Word) (h : (encode i).head? = some ii.byte) : Update i (·.setIdx ii v)
  | setSp (v : Word) : Update i ({ · with sp := v })
  | writeFlags (g : Flags) (src : XySource) : Update i (·.writeFlags g src)
  | jump (a : Word) : Update i (·.jump a)
  | poke (a : Word) (v : Byte) : Update i (·.poke a v)
  | report (op : Byte) (e : DiagEvent) (h : i = .unmappedEd op) : Update i (·.report e)
  | blockInterrupts (ii : Idx) (h : i = .lonePrefix ii) : Update i ({ · with intBlock := .afterPrefix })
  | readPort (p : Word) (h : Claims.doesIo i = true) : Update i (·.readPort p)
  | writePort (p : Word) (v : Byte) (h : Claims.doesIo i = true) : Update i (·.writePort p v)
  | swapAf (h : i = .exAfAf) : Update i State.swapAf
  | swapBank (h : i = .exx) : Update i State.swapBank
  | setHalted (h : i = .halt) : Update i ({ · with halted := true })
  | clearIff (h : i = .di) : Update i ({ · with iff1 := false, iff2 := false })
  | setIff (h : i = .ei) : Update i ({ · with iff1 := true, iff2 := true, intBlock := .afterEI })
  | restoreIff1 (h : Claims.writesIff1 i = true) : Update i fun s => { s with iff1 := s.iff2 }
  | setIm (m : BitVec 2) (hm : m ≠ 3) (h : Claims.writesIm i = true) : Update i ({ · with im := m })
  | setI (v : Byte) (h : i = .ldIA) : Update i ({ · with i := v })
  | setR (v : Byte) (h : i = .ldRegRA) : Update i ({ · with r := v })

/-- The meanings an instruction can have: it looks at the state, makes its updates and its memory accesses, and ends by paying its
cost.  It looks at no T-state and no `CYCLE_TABLE`. -/
inductive Meaning (i : Instr) : (State → Result) → Prop
  | retire (taken : Bool) : Meaning i (retire i taken)
  | update {u : State → State} {k : State → Result} (hu : Update i u) (hk : Meaning i k) : Meaning i fun s => k (u s)
  | access (a : Word) {k : State → Result} (hk : Meaning i k) : Meaning i fun s => andThen (access a s) k
  | look {α : Type} {g : State → α} {k : α → State → Result} (hg : CostFree g) (hk : ∀ v, Meaning i (k v)) :
      Meaning i fun s => k (g s) s

/-- A chain of looks and updates that may stand before any meaning.  A `Path` lemma adds one update to a chain `f`, its operand looked up
where the chain began; that the operand is `CostFree` is seen by computing it in both states, which the default argument does. -/
def Path (i : Instr) (f : State → State) : Prop := ∀ k, Meaning i k → Meaning i fun s => k (f s)

variable {i : Instr} {f : State → State}

theorem Path.start : Path i fun s => s := fun _ hk => hk

theorem Path.once {u : State → State} (hu : Update i u) : Path i u := fun _ hk => .update hu hk

theorem Path.update {α : Type} {u : α → State → State} {v : State → α} (hf : Path i f) (hu : ∀ x, Update i (u x)) (hv : CostFree v) :
    Path i fun s => u (v s) (f s) :=
  fun k hk => .look (k := fun x s => k (u x (f s))) hv fun x => hf _ (.update (hu x) hk)

section Paths

variable (hf : Path i f)
include hf

theorem Path.set8 {r : Reg8} {v : State → Byte} (hv : CostFree v := by exact fun _ _ _ => rfl) : Path i fun s => (f s).set8 r (v s) :=
  hf.update (u := fun x s => s.set8 r x) (.set8 r) hv

theorem Path.set16 {p : Pair} {v : State → Word} (hv : CostFree v := by exact fun _ _ _ => rfl) : Path i fun s => (f s).set16 p (v s) :=
  hf.update (u := fun x s => s.set16 p x) (.set16 p) hv

theorem Path.setQQ {q : StackPair} {v : State → Word} (hv : CostFree v := by exact fun _ _ _ => rfl) :
    Path i fun s => (f s).setQQ q (v s) :=
  hf.update (u := fun x s => s.setQQ q x) (.setQQ q) hv

theorem Path.setIdx {ii : Idx} {v : State → Word} (hi : (encode i).head? = some ii.byte := by rfl)
    (hv : CostFree v := by exact fun _ _ _ => rfl) : Path i fun s => (f s).setIdx ii (v s) :=
  hf.update (u := fun x s => s.setIdx ii x) (.setIdx ii · hi) hv

theorem Path.setSp {v : State → Word} (hv : CostFree v := by exact fun _ _ _ => rfl) : Path i fun s => { f s with sp := v s } :=
  hf.update (u := fun x s => { s with sp := x }) .setSp hv

theorem Path.writeFlags {g : State → Flags} {src : State → XySource} (hg : CostFree g := by exact fun _ _ _ => rfl)
    (hs : CostFree src := by exact fun _ _ _ => rfl) : Path i fun s => (f s).writeFlags (g s) (src s) :=
  hf.update (u := fun (x : Flags × XySource) s => s.writeFlags x.1 x.2) (v := fun s => (g s, src s)) (fun x => .writeFlags x.1 x.2)
    fun s c table => Prod.ext (hg s c table) (hs s c table)

/-- F written and A loaded, the shape of most accumulator operations. -/
theorem Path.writeFlagsA {g : State → Flags} {src : State → XySource} {v : State → Byte} (hg : CostFree g := by exact fun _ _ _ => rfl)
    (hs : CostFree src := by exact fun _ _ _ => rfl) (hv : CostFree v := by exact fun _ _ _ => rfl) :
    Path i fun s => { (f s).writeFlags (g s) (src s) with a := v s } :=
  (hf.writeFlags hg hs).set8 (r := .a) hv

theorem Path.jump {a : State → Word} (ha : CostFree a := by exact fun _ _ _ => rfl) : Path i fun s => (f s).jump (a s) :=
  hf.update (u := fun x s => s.jump x) .jump ha

theorem Path.readPort {p : State → Word} (hi : Claims.doesIo i = true := by rfl) (hp : CostFree p := by exact fun _ _ _ => rfl) :
    Path i fun s => (f s).readPort (p s) :=
  hf.update (u := fun x s => s.readPort x) (.readPort · hi) hp

theorem Path.writePort {p : State → Word} {v : State → Byte} (hi : Claims.doesIo i = true := by rfl)
    (hp : CostFree p := by exact fun _ _ _ => rfl) (hv : CostFree v := by exact fun _ _ _ => rfl) :
    Path i fun s => (f s).writePort (p s) (v s) :=
  hf.update (u := fun (x : Word × Byte) s => s.writePort x.1 x.2) (v := fun s => (p s, v s)) (fun x => .writePort x.1 x.2 hi)
    fun s c table => Prod.ext (hp s c table) (hv s c table)

theorem Path.report {e : State → DiagEvent} {op : Byte} (hi : i = .unmappedEd op := by rfl)
    (he : CostFree e := by exact fun _ _ _ => rfl) : Path i fun s => (f s).report (e s) :=
  hf.update (u := fun x s => s.report x) (.report op · hi) he

theorem Path.drawn {n : State → Nat} (hn : CostFree n := by exact fun _ _ _ => rfl) : Path i fun s => (f s).drawn (n s) :=
  hf.update (u := fun x s => s.drawn x) .drawn hn

theorem Path.setI {v : State → Byte} (hi : i = .ldIA := by rfl) (hv : CostFree v := by exact fun _ _ _ => rfl) :
    Path i fun s => { f s with i := v s } :=
  hf.update (u := fun x s => { s with i := x }) (.setI · hi) hv

theorem Path.setR {v : State → Byte} (hi : i = .ldRegRA := by rfl) (hv : CostFree v := by exact fun _ _ _ => rfl) :
    Path i fun s => { f s with r := v s } :=
  hf.update (u := fun x s => { s with r := x }) (.setR · hi) hv

end Paths

/-- Every accumulator operation, CP included. -/
theorem Path.alu {op : AluOp} {v : State → Byte} (hv : CostFree v := by exact fun _ _ _ => rfl) : Path i fun s => s.alu op (v s) := by
  have h (x : Byte) : Path i fun s => s.alu op x := by
    cases op
    case cp => exact .writeFlags .start
    all_goals exact .writeFlagsA .start
  exact fun k hk => .look (k := fun x s => k (s.alu op x)) hv fun x => h x k hk

/-! ### Meanings by the shared operations

One rule per operation of Machine/Ops.lean and Machine/Operands.lean: what goes on after it is a meaning, so the whole is. -/

theorem Meaning.done {taken : Bool} (hf : Path i f) : Meaning i fun s => Machine.retire i taken (f s) := hf _ (.retire taken)

theorem Meaning.along {k : State → Result} (hk : Meaning i k) (hf : Path i f) : Meaning i fun s => k (f s) := hf k hk

theorem Meaning.choose {b : State → Bool} {k k' : State → Result} (hk : Meaning i k) (hk' : Meaning i k')
    (hb : CostFree b := by exact fun _ _ _ => rfl) : Meaning i fun s => if b s = true then k s else k' s := by
  refine .look (k := fun b s => if b = true then k s else k' s) hb fun b => ?_
  cases b
  · exact hk'
  · exact hk

theorem Meaning.readByte {a : State → Word} {k : Byte → State → Result} (hk : ∀ v, Meaning i (k v))
    (ha : CostFree a := by exact fun _ _ _ => rfl) : Meaning i fun s => Machine.readByte (a s) s k :=
  .look (k := fun a s => Machine.readByte a s k) ha fun a => .access a (.look (g := (·.peek a)) (fun _ _ _ => rfl) hk)

theorem Meaning.writeByte {a : State → Word} {v : State → Byte} {k : State → Result} (hf : Path i f) (hk : Meaning i k)
    (ha : CostFree a := by exact fun _ _ _ => rfl) (hv : CostFree v := by exact fun _ _ _ => rfl) :
    Meaning i fun s => Machine.writeByte (a s) (v s) (f s) k :=
  .look (k := fun a s => Machine.writeByte a (v s) (f s) k) ha fun a =>
  .look (k := fun v s => Machine.writeByte a v (f s) k) hv fun v => hf _ (.access a (.update (.poke a v) hk))

theorem Meaning.readWord {a : State → Word} {k : Word → State → Result} (hk : ∀ v, Meaning i (k v))
    (ha : CostFree a := by exact fun _ _ _ => rfl) : Meaning i fun s => Machine.readWord (a s) s k :=
  .look (k := fun a s => Machine.readWord a s k) ha fun _ => .readByte fun _ => .readByte fun _ => hk _

theorem Meaning.writeWord {a v : State → Word} {k : State → Result} (hk : Meaning i k)
    (ha : CostFree a := by exact fun _ _ _ => rfl) (hv : CostFree v := by exact fun _ _ _ => rfl) :
    Meaning i fun s => Machine.writeWord (a s) (v s) s k :=
  .look (k := fun a s => Machine.writeWord a (v s) s k) ha fun a =>
  .look (k := fun v s => Machine.writeWord a v s k) hv fun _ => .writeByte .start (.writeByte .start hk)

theorem Meaning.push16 {v : State → Word} {k : State → Result} (hk : Meaning i k) (hv : CostFree v := by exact fun _ _ _ => rfl) :
    Meaning i fun s => Machine.push16 (v s) s k :=
  .look (k := fun v s => Machine.push16 v s k) hv fun v =>
    .along (k := fun s => Machine.writeWord s.sp v s k) (.writeWord hk) (.setSp .start)

theorem Meaning.pop16 {k : Word → State → Result} (hk : ∀ v, Meaning i (k v)) : Meaning i fun s => Machine.pop16 s k :=
  .readWord fun v => .along (hk v) (.setSp .start)

theorem Meaning.callTo {a : Word} {k : State → Result} (hk : Meaning i k) : Meaning i fun s => Machine.callTo a s k :=
  .push16 (.update (.jump a) hk)

theorem Meaning.popPc {k : State → Result} (hk : Meaning i k) : Meaning i fun s => Machine.popPc s k :=
  .pop16 fun v => .update (.jump v) hk

theorem Meaning.returnFromInterrupt {k : State → Result} (hk : Meaning i k) (hi : Claims.writesIff1 i = true := by rfl) :
    Meaning i fun s => Machine.returnFromInterrupt s k :=
  .pop16 fun v => .update (u := (·.jump v)) (.jump v) (.update (.restoreIff1 hi) hk)

theorem Meaning.rotMem {op : RotOp} {a : State → Word} {k : Byte → State → Result} (hk : ∀ v, Meaning i (k v))
    (ha : CostFree a := by exact fun _ _ _ => rfl) : Meaning i fun s => Machine.rotMem op (a s) s k :=
  .look (k := fun a s => Machine.rotMem op a s k) ha fun a => .readByte fun v =>
    .look (g := fun s => rot op v s.f.c) (k := fun x s => Machine.writeByte a x (s.rotFlags op v) (k x)) (fun _ _ _ => rfl) fun x =>
      .writeByte (.writeFlags .start) (hk x)

theorem Meaning.modifyByte {g : Byte → Byte} {a : State → Word} {k : Byte → State → Result} (hk : ∀ v, Meaning i (k v))
    (ha : CostFree a := by exact fun _ _ _ => rfl) : Meaning i fun s => Machine.modifyByte g (a s) s k :=
  .look (k := fun a s => Machine.modifyByte g a s k) ha fun _ => .readByte fun _ => .writeByte .start (hk _)

theorem Meaning.bitMemIid {n : BitVec 3} {a : State → Word} {k : State → Result} (hk : Meaning i k)
    (ha : CostFree a := by exact fun _ _ _ => rfl) : Meaning i fun s => Machine.bitMemIid (a s) n s k :=
  .look (k := fun a s => Machine.bitMemIid a n s k) ha fun _ => .readByte fun _ => .along hk (.writeFlags .start)

theorem Meaning.rotateDigitLeft {k : State → Result} (hk : Meaning i k) : Meaning i fun s => Machine.rotateDigitLeft s k :=
  .readByte fun _ => .writeByte .start (.along hk (.writeFlagsA .start))

theorem Meaning.rotateDigitRight {k : State → Result} (hk : Meaning i k) : Meaning i fun s => Machine.rotateDigitRight s k :=
  .readByte fun _ => .writeByte .start (.along hk (.writeFlagsA .start))

theorem Meaning.moveBlock {dir : Direction} {k : State → Result} (hk : Meaning i k) : Meaning i fun s => Machine.moveBlock dir s k :=
  .readByte fun _ => .writeByte .start (.along hk (.writeFlags (.set16 (.set16 (.set16 .start)))))

theorem Meaning.compareBlock {dir : Direction} {k : State → Result} (hk : Meaning i k) :
    Meaning i fun s => Machine.compareBlock dir s k :=
  .readByte fun _ => .along hk (.writeFlags (.set16 (.set16 .start)))

theorem Meaning.blockIoDone {k : State → Result} (hk : Meaning i k) : Meaning i fun s => k s.blockIoDone :=
  .along hk (.writeFlags (.drawn .start))

theorem Meaning.inputBlock {dir : Direction} {k : State → Result} (hk : Meaning i k) (hi : Claims.doesIo i = true := by rfl) :
    Meaning i fun s => Machine.inputBlock dir s k := by
  unfold Machine.inputBlock
  exact .writeByte (.readPort .start hi) (.along (k := fun s => k s.blockIoDone) (.blockIoDone hk) (.set16 (.set8 .start)))

theorem Meaning.outputBlock {dir : Direction} {k : State → Result} (hk : Meaning i k) (hi : Claims.doesIo i = true := by rfl) :
    Meaning i fun s => Machine.outputBlock dir s k :=
  .readByte fun _ => .along (k := fun s => k s.blockIoDone) (.blockIoDone hk) (.set16 (.writePort (.set8 .start) hi))

theorem Meaning.repeatWhile {again : State → Bool} (ha : CostFree again := by exact fun _ _ _ => rfl) :
    Meaning i fun s => Machine.repeatWhile i (again s) s :=
  .choose (.done (.jump .start)) (.done .start) ha

theorem Meaning.djnz {e : Byte} : Meaning i fun s => Machine.djnz i e s :=
  .choose (b := fun s => s.b - 1 != 0) (.done (.jump (.set8 .start))) (.done (.set8 .start))

/-! ### Every instruction -/

/-- The table of the instructions: for each its accesses, its branches and its updates, in the order its meaning makes them. -/
theorem exec_meaning : (i : Instr) → Meaning i (exec i)
  | .ldRrNn rr nn => show Meaning _ (execLdRrNn rr nn) from .done (.set16 .start)
  | .incRr rr => show Meaning _ (execIncRr rr) from .done (.set16 .start)
  | .decRr rr => show Meaning _ (execDecRr rr) from .done (.set16 .start)
  | .incR r => show Meaning _ (execIncR r) from .done (.set8 (.writeFlags .start))
  | .decR r => show Meaning _ (execDecR r) from .done (.set8 (.writeFlags .start))
  | .ldRN r n => show Meaning _ (execLdRN r n) from .done (.set8 .start)
  | .ldMemHlN n => show Meaning _ (execLdMemHlN n) from .writeByte .start (.done .start)
  | .addHlRr rr => show Meaning _ (execAddHlRr rr) from .done (.set16 (.writeFlags .start))
  | .djnzE e => show Meaning _ (execDjnzE e) from .djnz
  | .jrE e => show Meaning _ (execJrE e) from .done (.jump .start)
  | .jrCcE cc e => show Meaning _ (execJrCcE cc e) from .choose (.done (.jump .start)) (.done .start)
  | .ldMemNnHl nn => show Meaning _ (execLdMemNnHl nn) from .writeWord (.done .start)
  | .ldHlMemNn nn => show Meaning _ (execLdHlMemNn nn) from .readWord fun _ => .done (.set16 .start)
  | .ldMemNnA nn => show Meaning _ (execLdMemNnA nn) from .writeByte .start (.done .start)
  | .ldAMemNn nn => show Meaning _ (execLdAMemNn nn) from .readByte fun _ => .done (.set8 .start)
  | .ldRR r r' => show Meaning _ (execLdRR r r') from .done (.set8 .start)
  | .ldRMemHl r => show Meaning _ (execLdRMemHl r) from .readByte fun _ => .done (.set8 .start)
  | .ldMemHlR r => show Meaning _ (execLdMemHlR r) from .writeByte .start (.done .start)
  | .addAR r => show Meaning _ (execAddAR r) from .done .alu
  | .addAN n => show Meaning _ (execAddAN n) from .done .alu
  | .adcAR r => show Meaning _ (execAdcAR r) from .done .alu
  | .adcAN n => show Meaning _ (execAdcAN n) from .done .alu
  | .subR r => show Meaning _ (execSubR r) from .done .alu
  | .subN n => show Meaning _ (execSubN n) from .done .alu
  | .sbcAR r => show Meaning _ (execSbcAR r) from .done .alu
  | .sbcAN n => show Meaning _ (execSbcAN n) from .done .alu
  | .andR r => show Meaning _ (execAndR r) from .done .alu
  | .andN n => show Meaning _ (execAndN n) from .done .alu
  | .xorR r => show Meaning _ (execXorR r) from .done .alu
  | .xorN n => show Meaning _ (execXorN n) from .done .alu
  | .orR r => show Meaning _ (execOrR r) from .done .alu
  | .orN n => show Meaning _ (execOrN n) from .done .alu
  | .cpR r => show Meaning _ (execCpR r) from .done .alu
  | .cpN n => show Meaning _ (execCpN n) from .done .alu
  | .retCc cc => show Meaning _ (execRetCc cc) from .choose (.popPc (.done .start)) (.done .start)
  | .popQq qq => show Meaning _ (execPopQq qq) from .pop16 fun _ => .done (.setQQ .start)
  | .jpCcNn cc nn => show Meaning _ (execJpCcNn cc nn) from .choose (.done (.jump .start)) (.done .start)
  | .jpNn nn => show Meaning _ (execJpNn nn) from .done (.jump .start)
  | .callCcNn cc nn => show Meaning _ (execCallCcNn cc nn) from .choose (.callTo (.done .start)) (.done .start)
  | .pushQq qq => show Meaning _ (execPushQq qq) from .push16 (.done .start)
  | .rstP y => show Meaning _ (execRstP y) from .callTo (.done .start)
  | .callNn nn => show Meaning _ (execCallNn nn) from .callTo (.done .start)
  | .outMemNA n => show Meaning _ (execOutMemNA n) from .done (.writePort .start)
  | .inAMemN n => show Meaning _ (execInAMemN n) from .done (.set8 (.readPort .start))
  | .rlcR r => show Meaning _ (execRlcR r) from .done (.set8 (.writeFlags .start))
  | .rrcR r => show Meaning _ (execRrcR r) from .done (.set8 (.writeFlags .start))
  | .rlR r => show Meaning _ (execRlR r) from .done (.set8 (.writeFlags .start))
  | .rrR r => show Meaning _ (execRrR r) from .done (.set8 (.writeFlags .start))
  | .slaR r => show Meaning _ (execSlaR r) from .done (.set8 (.writeFlags .start))
  | .sraR r => show Meaning _ (execSraR r) from .done (.set8 (.writeFlags .start))
  | .sllR r => show Meaning _ (execSllR r) from .done (.set8 (.writeFlags .start))
  | .srlR r => show Meaning _ (execSrlR r) from .done (.set8 (.writeFlags .start))
  | .bitBR n r => show Meaning _ (execBitBR n r) from .done (.writeFlags .start)
  | .bitBMemHl n => show Meaning _ (execBitBMemHl n) from .readByte fun _ => .done (.writeFlags .start)
  | .resBR n r => show Meaning _ (execResBR n r) from .done (.set8 .start)
  | .resBMemHl n => show Meaning _ (execResBMemHl n) from .modifyByte fun _ => .done .start
  | .setBR n r => show Meaning _ (execSetBR n r) from .done (.set8 .start)
  | .setBMemHl n => show Meaning _ (execSetBMemHl n) from .modifyByte fun _ => .done .start
  | .inRMemC r => show Meaning _ (execInRMemC r) from .done (.set8 (.writeFlags (.readPort .start)))
  | .outMemCR r => show Meaning _ (execOutMemCR r) from .done (.writePort .start)
  | .sbcHlRr rr => show Meaning _ (execSbcHlRr rr) from .done (.set16 (.writeFlags .start))
  | .adcHlRr rr => show Meaning _ (execAdcHlRr rr) from .done (.set16 (.writeFlags .start))
  | .ldMemNnRr rr nn => show Meaning _ (execLdMemNnRr rr nn) from .writeWord (.done .start)
  | .ldRrMemNn rr nn => show Meaning _ (execLdRrMemNn rr nn) from .readWord fun _ => .done (.set16 .start)
  | .negDup y => show Meaning _ (execNegDup y) from .done (.writeFlagsA .start)
  | .retnDup y => show Meaning _ (execRetnDup y) from .returnFromInterrupt (.done .start)
  | .im0Dup y => show Meaning _ (execIm0Dup y) from .done (.once (.setIm _ (by decide) rfl))
  | .unmappedEd op => show Meaning _ (execUnmappedEd op) from .done (.report .start)
  | .addIiBc ii => show Meaning _ (execAddIiBc ii) from .done (.setIdx (.writeFlags .start))
  | .addIiDe ii => show Meaning _ (execAddIiDe ii) from .done (.setIdx (.writeFlags .start))
  | .addIiIi ii => show Meaning _ (execAddIiIi ii) from .done (.setIdx (.writeFlags .start))
  | .addIiSp ii => show Meaning _ (execAddIiSp ii) from .done (.setIdx (.writeFlags .start))
  | .ldIiNn ii nn => show Meaning _ (execLdIiNn ii nn) from .done (.setIdx .start)
  | .ldMemNnIi ii nn => show Meaning _ (execLdMemNnIi ii nn) from .writeWord (.done .start)
  | .incIi ii => show Meaning _ (execIncIi ii) from .done (.setIdx .start)
  | .ldIiMemNn ii nn => show Meaning _ (execLdIiMemNn ii nn) from .readWord fun _ => .done (.setIdx .start)
  | .decIi ii => show Meaning _ (execDecIi ii) from .done (.setIdx .start)
  | .incIih ii => show Meaning _ (execIncIih ii) from .done (.setIdx (.writeFlags .start))
  | .decIih ii => show Meaning _ (execDecIih ii) from .done (.setIdx (.writeFlags .start))
  | .ldIihN ii n => show Meaning _ (execLdIihN ii n) from .done (.setIdx .start)
  | .incIil ii => show Meaning _ (execIncIil ii) from .done (.setIdx (.writeFlags .start))
  | .decIil ii => show Meaning _ (execDecIil ii) from .done (.setIdx (.writeFlags .start))
  | .ldIilN ii n => show Meaning _ (execLdIilN ii n) from .done (.setIdx .start)
  | .incMemIid ii d => show Meaning _ (execIncMemIid ii d) from .readByte fun _ => .writeByte (.writeFlags .start) (.done .start)
  | .decMemIid ii d => show Meaning _ (execDecMemIid ii d) from .readByte fun _ => .writeByte (.writeFlags .start) (.done .start)
  | .ldMemIidN ii d n => show Meaning _ (execLdMemIidN ii d n) from .writeByte .start (.done .start)
  | .ldBIih ii => show Meaning _ (execLdBIih ii) from .done (.set8 .start)
  | .ldBIil ii => show Meaning _ (execLdBIil ii) from .done (.set8 .start)
  | .ldBMemIid ii d => show Meaning _ (execLdBMemIid ii d) from .readByte fun _ => .done (.set8 .start)
  | .ldCIih ii => show Meaning _ (execLdCIih ii) from .done (.set8 .start)
  | .ldCIil ii => show Meaning _ (execLdCIil ii) from .done (.set8 .start)
  | .ldCMemIid ii d => show Meaning _ (execLdCMemIid ii d) from .readByte fun _ => .done (.set8 .start)
  | .ldDIih ii => show Meaning _ (execLdDIih ii) from .done (.set8 .start)
  | .ldDIil ii => show Meaning _ (execLdDIil ii) from .done (.set8 .start)
  | .ldDMemIid ii d => show Meaning _ (execLdDMemIid ii d) from .readByte fun _ => .done (.set8 .start)
  | .ldEIih ii => show Meaning _ (execLdEIih ii) from .done (.set8 .start)
  | .ldEIil ii => show Meaning _ (execLdEIil ii) from .done (.set8 .start)
  | .ldEMemIid ii d => show Meaning _ (execLdEMemIid ii d) from .readByte fun _ => .done (.set8 .start)
  | .ldIihB ii => show Meaning _ (execLdIihB ii) from .done (.setIdx .start)
  | .ldIihC ii => show Meaning _ (execLdIihC ii) from .done (.setIdx .start)
  | .ldIihD ii => show Meaning _ (execLdIihD ii) from .done (.setIdx .start)
  | .ldIihE ii => show Meaning _ (execLdIihE ii) from .done (.setIdx .start)
  | .ldIihIih ii => show Meaning _ (execLdIihIih ii) from .done (.setIdx .start)
  | .ldIihIil ii => show Meaning _ (execLdIihIil ii) from .done (.setIdx .start)
  | .ldHMemIid ii d => show Meaning _ (execLdHMemIid ii d) from .readByte fun _ => .done (.set8 .start)
  | .ldIihA ii => show Meaning _ (execLdIihA ii) from .done (.setIdx .start)
  | .ldIilB ii => show Meaning _ (execLdIilB ii) from .done (.setIdx .start)
  | .ldIilC ii => show Meaning _ (execLdIilC ii) from .done (.setIdx .start)
  | .ldIilD ii => show Meaning _ (execLdIilD ii) from .done (.setIdx .start)
  | .ldIilE ii => show Meaning _ (execLdIilE ii) from .done (.setIdx .start)
  | .ldIilIih ii => show Meaning _ (execLdIilIih ii) from .done (.setIdx .start)
  | .ldIilIil ii => show Meaning _ (execLdIilIil ii) from .done (.setIdx .start)
  | .ldLMemIid ii d => show Meaning _ (execLdLMemIid ii d) from .readByte fun _ => .done (.set8 .start)
  | .ldIilA ii => show Meaning _ (execLdIilA ii) from .done (.setIdx .start)
  | .ldMemIidB ii d => show Meaning _ (execLdMemIidB ii d) from .writeByte .start (.done .start)
  | .ldMemIidC ii d => show Meaning _ (execLdMemIidC ii d) from .writeByte .start (.done .start)
  | .ldMemIidD ii d => show Meaning _ (execLdMemIidD ii d) from .writeByte .start (.done .start)
  | .ldMemIidE ii d => show Meaning _ (execLdMemIidE ii d) from .writeByte .start (.done .start)
  | .ldMemIidH ii d => show Meaning _ (execLdMemIidH ii d) from .writeByte .start (.done .start)
  | .ldMemIidL ii d => show Meaning _ (execLdMemIidL ii d) from .writeByte .start (.done .start)
  | .ldMemIidA ii d => show Meaning _ (execLdMemIidA ii d) from .writeByte .start (.done .start)
  | .ldAIih ii => show Meaning _ (execLdAIih ii) from .done (.set8 .start)
  | .ldAIil ii => show Meaning _ (execLdAIil ii) from .done (.set8 .start)
  | .ldAMemIid ii d => show Meaning _ (execLdAMemIid ii d) from .readByte fun _ => .done (.set8 .start)
  | .addAIih ii => show Meaning _ (execAddAIih ii) from .done .alu
  | .addAIil ii => show Meaning _ (execAddAIil ii) from .done .alu
  | .addAMemIid ii d => show Meaning _ (execAddAMemIid ii d) from .readByte fun _ => .done .alu
  | .adcAIih ii => show Meaning _ (execAdcAIih ii) from .done .alu
  | .adcAIil ii => show Meaning _ (execAdcAIil ii) from .done .alu
  | .adcAMemIid ii d => show Meaning _ (execAdcAMemIid ii d) from .readByte fun _ => .done .alu
  | .subIih ii => show Meaning _ (execSubIih ii) from .done .alu
  | .subIil ii => show Meaning _ (execSubIil ii) from .done .alu
  | .subMemIid ii d => show Meaning _ (execSubMemIid ii d) from .readByte fun _ => .done .alu
  | .sbcAIih ii => show Meaning _ (execSbcAIih ii) from .done .alu
  | .sbcAIil ii => show Meaning _ (execSbcAIil ii) from .done .alu
  | .sbcAMemIid ii d => show Meaning _ (execSbcAMemIid ii d) from .readByte fun _ => .done .alu
  | .andIih ii => show Meaning _ (execAndIih ii) from .done .alu
  | .andIil ii => show Meaning _ (execAndIil ii) from .done .alu
  | .andMemIid ii d => show Meaning _ (execAndMemIid ii d) from .readByte fun _ => .done .alu
  | .xorIih ii => show Meaning _ (execXorIih ii) from .done .alu
  | .xorIil ii => show Meaning _ (execXorIil ii) from .done .alu
  | .xorMemIid ii d => show Meaning _ (execXorMemIid ii d) from .readByte fun _ => .done .alu
  | .orIih ii => show Meaning _ (execOrIih ii) from .done .alu
  | .orIil ii => show Meaning _ (execOrIil ii) from .done .alu
  | .orMemIid ii d => show Meaning _ (execOrMemIid ii d) from .readByte fun _ => .done .alu
  | .cpIih ii => show Meaning _ (execCpIih ii) from .done .alu
  | .cpIil ii => show Meaning _ (execCpIil ii) from .done .alu
  | .cpMemIid ii d => show Meaning _ (execCpMemIid ii d) from .readByte fun _ => .done .alu
  | .popIi ii => show Meaning _ (execPopIi ii) from .pop16 fun _ => .done (.setIdx .start)
  | .exMemSpIi ii => show Meaning _ (execExMemSpIi ii) from .readWord fun _ => .writeWord (.done (.setIdx .start))
  | .pushIi ii => show Meaning _ (execPushIi ii) from .push16 (.done .start)
  | .jpIi ii => show Meaning _ (execJpIi ii) from .done (.jump .start)
  | .ldSpIi ii => show Meaning _ (execLdSpIi ii) from .done (.set16 .start)
  | .lonePrefix ii => show Meaning _ (execLonePrefix ii) from .done (.once (.blockInterrupts _ rfl))
  | .rlcMemIid ii d => show Meaning _ (execRlcMemIid ii d) from .rotMem fun _ => .done .start
  | .rlcMemIidR ii d r => show Meaning _ (execRlcMemIidR ii d r) from .rotMem fun _ => .done (.set8 .start)
  | .rrcMemIid ii d => show Meaning _ (execRrcMemIid ii d) from .rotMem fun _ => .done .start
  | .rrcMemIidR ii d r => show Meaning _ (execRrcMemIidR ii d r) from .rotMem fun _ => .done (.set8 .start)
  | .rlMemIid ii d => show Meaning _ (execRlMemIid ii d) from .rotMem fun _ => .done .start
  | .rlMemIidR ii d r => show Meaning _ (execRlMemIidR ii d r) from .rotMem fun _ => .done (.set8 .start)
  | .rrMemIid ii d => show Meaning _ (execRrMemIid ii d) from .rotMem fun _ => .done .start
  | .rrMemIidR ii d r => show Meaning _ (execRrMemIidR ii d r) from .rotMem fun _ => .done (.set8 .start)
  | .slaMemIid ii d => show Meaning _ (execSlaMemIid ii d) from .rotMem fun _ => .done .start
  | .slaMemIidR ii d r => show Meaning _ (execSlaMemIidR ii d r) from .rotMem fun _ => .done (.set8 .start)
  | .sraMemIid ii d => show Meaning _ (execSraMemIid ii d) from .rotMem fun _ => .done .start
  | .sraMemIidR ii d r => show Meaning _ (execSraMemIidR ii d r) from .rotMem fun _ => .done (.set8 .start)
  | .sllMemIid ii d => show Meaning _ (execSllMemIid ii d) from .rotMem fun _ => .done .start
  | .sllMemIidR ii d r => show Meaning _ (execSllMemIidR ii d r) from .rotMem fun _ => .done (.set8 .start)
  | .srlMemIid ii d => show Meaning _ (execSrlMemIid ii d) from .rotMem fun _ => .done .start
  | .srlMemIidR ii d r => show Meaning _ (execSrlMemIidR ii d r) from .rotMem fun _ => .done (.set8 .start)
  | .bitBMemIid ii d n z => show Meaning _ (execBitBMemIid ii d n z) from .bitMemIid (.done .start)
  | .resBMemIid ii d n => show Meaning _ (execResBMemIid ii d n) from .modifyByte fun _ => .done .start
  | .resBMemIidR ii d n r => show Meaning _ (execResBMemIidR ii d n r) from .modifyByte fun _ => .done (.set8 .start)
  | .setBMemIid ii d n => show Meaning _ (execSetBMemIid ii d n) from .modifyByte fun _ => .done .start
  | .setBMemIidR ii d n r => show Meaning _ (execSetBMemIidR ii d n r) from .modifyByte fun _ => .done (.set8 .start)
  | .nop => show Meaning _ execNop from .done .start
  | .ldMemBcA => show Meaning _ execLdMemBcA from .writeByte .start (.done .start)
  | .ldMemDeA => show Meaning _ execLdMemDeA from .writeByte .start (.done .start)
  | .incMemHl => show Meaning _ execIncMemHl from .readByte fun _ => .writeByte (.writeFlags .start) (.done .start)
  | .decMemHl => show Meaning _ execDecMemHl from .readByte fun _ => .writeByte (.writeFlags .start) (.done .start)
  | .rlca => show Meaning _ execRlca from .done (.writeFlagsA .start)
  | .rrca => show Meaning _ execRrca from .done (.writeFlagsA .start)
  | .rla => show Meaning _ execRla from .done (.writeFlagsA .start)
  | .rra => show Meaning _ execRra from .done (.writeFlagsA .start)
  | .exAfAf => show Meaning _ execExAfAf from .done (.once (.swapAf rfl))
  | .ldAMemBc => show Meaning _ execLdAMemBc from .readByte fun _ => .done (.set8 .start)
  | .ldAMemDe => show Meaning _ execLdAMemDe from .readByte fun _ => .done (.set8 .start)
  | .daa => show Meaning _ execDaa from .done (.writeFlagsA .start)
  | .cpl => show Meaning _ execCpl from .done (.writeFlagsA .start)
  | .scf => show Meaning _ execScf from .done (.writeFlags .start)
  | .ccf => show Meaning _ execCcf from .done (.writeFlags .start)
  | .halt => show Meaning _ execHalt from .done (.once (.setHalted rfl))
  | .addAMemHl => show Meaning _ execAddAMemHl from .readByte fun _ => .done .alu
  | .adcAMemHl => show Meaning _ execAdcAMemHl from .readByte fun _ => .done .alu
  | .subMemHl => show Meaning _ execSubMemHl from .readByte fun _ => .done .alu
  | .sbcAMemHl => show Meaning _ execSbcAMemHl from .readByte fun _ => .done .alu
  | .andMemHl => show Meaning _ execAndMemHl from .readByte fun _ => .done .alu
  | .xorMemHl => show Meaning _ execXorMemHl from .readByte fun _ => .done .alu
  | .orMemHl => show Meaning _ execOrMemHl from .readByte fun _ => .done .alu
  | .cpMemHl => show Meaning _ execCpMemHl from .readByte fun _ => .done .alu
  | .popAf => show Meaning _ execPopAf from .pop16 fun _ => .done (.setQQ .start)
  | .ret => show Meaning _ execRet from .popPc (.done .start)
  | .exx => show Meaning _ execExx from .done (.once (.swapBank rfl))
  | .exMemSpHl => show Meaning _ execExMemSpHl from .readWord fun _ => .writeWord (.done (.set16 .start))
  | .jpHl => show Meaning _ execJpHl from .done (.jump .start)
  | .exDeHl => show Meaning _ execExDeHl from .done (.set16 (.set16 .start))
  | .di => show Meaning _ execDi from .done (.once (.clearIff rfl))
  | .ldSpHl => show Meaning _ execLdSpHl from .done (.set16 .start)
  | .ei => show Meaning _ execEi from .done (.once (.setIff rfl))
  | .rlcMemHl => show Meaning _ execRlcMemHl from .rotMem fun _ => .done .start
  | .rrcMemHl => show Meaning _ execRrcMemHl from .rotMem fun _ => .done .start
  | .rlMemHl => show Meaning _ execRlMemHl from .rotMem fun _ => .done .start
  | .rrMemHl => show Meaning _ execRrMemHl from .rotMem fun _ => .done .start
  | .slaMemHl => show Meaning _ execSlaMemHl from .rotMem fun _ => .done .start
  | .sraMemHl => show Meaning _ execSraMemHl from .rotMem fun _ => .done .start
  | .sllMemHl => show Meaning _ execSllMemHl from .rotMem fun _ => .done .start
  | .srlMemHl => show Meaning _ execSrlMemHl from .rotMem fun _ => .done .start
  | .inMemC => show Meaning _ execInMemC from .done (.writeFlags (.readPort .start))
  | .outMemC0 => show Meaning _ execOutMemC0 from .done (.writePort .start)
  | .neg => show Meaning _ execNeg from .done (.writeFlagsA .start)
  | .retn => show Meaning _ execRetn from .returnFromInterrupt (.done .start)
  | .reti => show Meaning _ execReti from .returnFromInterrupt (.done .start)
  | .im0 => show Meaning _ execIm0 from .done (.once (.setIm _ (by decide) rfl))
  | .im1 => show Meaning _ execIm1 from .done (.once (.setIm _ (by decide) rfl))
  | .im1Dup => show Meaning _ execIm1Dup from .done (.once (.setIm _ (by decide) rfl))
  | .im2 => show Meaning _ execIm2 from .done (.once (.setIm _ (by decide) rfl))
  | .im2Dup => show Meaning _ execIm2Dup from .done (.once (.setIm _ (by decide) rfl))
  | .ldIA => show Meaning _ execLdIA from .done (.setI .start)
  | .ldRegRA => show Meaning _ execLdRegRA from .done (.setR .start)
  | .ldAI => show Meaning _ execLdAI from .done (.writeFlagsA .start)
  | .ldARegR => show Meaning _ execLdARegR from .done (.writeFlagsA .start)
  | .rrd => show Meaning _ execRrd from .rotateDigitRight (.done .start)
  | .rld => show Meaning _ execRld from .rotateDigitLeft (.done .start)
  | .ldi => show Meaning _ execLdi from .moveBlock (.done .start)
  | .ldd => show Meaning _ execLdd from .moveBlock (.done .start)
  | .ldir => show Meaning _ execLdir from .moveBlock (.repeatWhile)
  | .lddr => show Meaning _ execLddr from .moveBlock (.repeatWhile)
  | .cpi => show Meaning _ execCpi from .compareBlock (.done .start)
  | .cpd => show Meaning _ execCpd from .compareBlock (.done .start)
  | .cpir => show Meaning _ execCpir from .compareBlock (.repeatWhile)
  | .cpdr => show Meaning _ execCpdr from .compareBlock (.repeatWhile)
  | .ini => show Meaning _ execIni from .inputBlock (.done .start)
  | .ind => show Meaning _ execInd from .inputBlock (.done .start)
  | .inir => show Meaning _ execInir from .inputBlock (.repeatWhile)
  | .indr => show Meaning _ execIndr from .inputBlock (.repeatWhile)
  | .outi => show Meaning _ execOuti from .outputBlock (.done .start)
  | .outd => show Meaning _ execOutd from .outputBlock (.done .start)
  | .otir => show Meaning _ execOtir from .outputBlock (.repeatWhile)
  | .otdr => show Meaning _ execOtdr from .outputBlock (.repeatWhile)

end Sys2Proof.Machine
end

section
/-! PROOFS. One run: what an instruction leaves unchanged, what a step does, and that legal states stay legal. -/

namespace Sys2Proof.Machine

open Claims

/-! ### One run -/

/-- The part of the shadow set that EX AF,AF' swaps (10_state.md R23). -/
def State.shadowAf (s : State) : Byte × Flags := (s.aAlt, s.fAlt)

/-- The part of the shadow set that EXX swaps (10_state.md R23). -/
def State.shadowBank (s : State) : Byte × Byte × Byte × Byte × Byte × Byte := (s.bAlt, s.cAlt, s.dAlt, s.eAlt, s.hAlt, s.lAlt)

section
variable {i : Instr} {u : State → State} (hu : Update i u) (s : State)
include hu

theorem Update.params_eq : (u s).params = s.params := by
  cases hu <;> simp [State.swapAf, State.swapBank]

theorem Update.im_eq (hw : writesIm i = false) : (u s).im = s.im := by
  cases hu
  case setIm h => simp [hw] at h
  all_goals simp [State.swapAf, State.swapBank]

theorem Update.iff1_eq (hw : writesIff1 i = false) : (u s).iff1 = s.iff1 := by
  cases hu
  case restoreIff1 h => simp [hw] at h
  case clearIff h => simp [h, writesIff1] at hw
  case setIff h => simp [h, writesIff1] at hw
  all_goals simp [State.swapAf, State.swapBank]

theorem Update.iff2_eq (hd : i ≠ .di) (he : i ≠ .ei) : (u s).iff2 = s.iff2 := by
  cases hu
  case clearIff h => exact absurd h hd
  case setIff h => exact absurd h he
  all_goals simp [State.swapAf, State.swapBank]

theorem Update.i_eq (hw : i ≠ .ldIA) : (u s).i = s.i := by
  cases hu
  case setI h => exact absurd h hw
  all_goals simp [State.swapAf, State.swapBank]

theorem Update.r_eq (hw : i ≠ .ldRegRA) : (u s).r = s.r := by
  cases hu
  case setR h => exact absurd h hw
  all_goals simp [State.swapAf, State.swapBank]

theorem Update.halted_eq (hw : i ≠ .halt) : (u s).halted = s.halted := by
  cases hu
  case setHalted h => exact absurd h hw
  all_goals simp [State.swapAf, State.swapBank]

theorem Update.intPending_eq : (u s).intPending = s.intPending := by
  cases hu <;> simp [State.swapAf, State.swapBank]

theorem Update.nmiPending_eq : (u s).nmiPending = s.nmiPending := by
  cases hu <;> simp [State.swapAf, State.swapBank]

theorem Update.shadowAf_eq (hw : i ≠ .exAfAf) : (u s).shadowAf = s.shadowAf := by
  cases hu
  case swapAf h => exact absurd h hw
  all_goals simp [State.shadowAf, State.swapBank]

theorem Update.shadowBank_eq (hw : i ≠ .exx) : (u s).shadowBank = s.shadowBank := by
  cases hu
  case swapBank h => exact absurd h hw
  all_goals simp [State.shadowBank, State.swapAf]

theorem Update.idx_eq {ii : Idx} (hw : (encode i).head? ≠ some ii.byte) : (u s).idx ii = s.idx ii := by
  cases hu
  case setIdx jj v h => exact State.idx_setIdx_other _ _ _ _ fun e => hw (e ▸ h)
  all_goals simp [State.idx, State.swapAf, State.swapBank]

theorem Update.io_eq (hw : doesIo i = false) : (u s).io = s.io := by
  cases hu
  case readPort h => simp [hw] at h
  case writePort h => simp [hw] at h
  all_goals simp [State.swapAf, State.swapBank]

end

/-- A state reached from another by an instruction's updates. -/
def Reaches (i : Instr) : State → State → Prop := Relation.ReflTransGen fun s t => ∃ u, Update i u ∧ t = u s

theorem Reaches.head {i : Instr} {u : State → State} {s t : State} (hu : Update i u) (h : Reaches i (u s) t) : Reaches i s t :=
  Relation.ReflTransGen.head ⟨u, hu, rfl⟩ h

/-- What every update leaves alone, a chain of them leaves alone. -/
theorem Reaches.keeps {α : Sort*} {i : Instr} {s t : State} (p : State → α) (hp : ∀ u s, Update i u → p (u s) = p s)
    (h : Reaches i s t) : p t = p s := by
  induction h with
  | refl => rfl
  | tail _ hstep ih =>
    obtain ⟨u, hu, rfl⟩ := hstep
    exact (hp u _ hu).trans ih

theorem Stops.of_params {s t : State} {o : Result} (h : Stops t o) (hp : t.params = s.params) : Stops s o :=
  ⟨hp ▸ h.1, h.2⟩

/-- A meaning stops in a memory fault, or it makes its instruction's updates and then pays its cost. -/
theorem Meaning.cases {i : Instr} {k : State → Result} (hk : Meaning i k) :
    ∀ s, Stops s (k s) ∨ ∃ t taken, Reaches i s t ∧ k s = .next (t.spend (cost s.params.costs i taken)) := by
  induction hk with
  | retire taken => exact fun s => .inr ⟨s, taken, .refl, rfl⟩
  | @update u k hu _ ih =>
    intro s
    have hp := hu.params_eq s
    obtain h | ⟨t, taken, ht, e⟩ := ih (u s)
    · exact .inl (h.of_params hp)
    · exact .inr ⟨t, taken, ht.head hu, hp ▸ e⟩
  | @access a k _ ih =>
    intro s
    beta_reduce
    obtain ⟨h, b, u, e⟩ | ⟨n, e⟩ := access_cases a s
    · exact .inl ⟨h, b, u, by rw [e, andThen_of_fault]⟩
    · rw [e, andThen_of_next]
      obtain h | ⟨t, taken, ht, e⟩ := ih (s.drawn n)
      · exact .inl h
      · exact .inr ⟨t, taken, ht.head (.drawn n), e⟩
  | look _ _ ih => exact fun s => ih _ s

/-- What an instruction can do: stop in a memory fault, or make its updates and then pay its cost. -/
theorem exec_cases (i : Instr) (s : State) :
    Stops s (exec i s) ∨ ∃ t taken, Reaches i s t ∧ exec i s = .next (t.spend (cost s.params.costs i taken)) :=
  (exec_meaning i).cases s

/-- `exec_cases` for an instruction that goes on. -/
theorem exec_reaches {i : Instr} {s t : State} (h : exec i s = .next t) :
    ∃ u taken, Reaches i s u ∧ t = u.spend (cost s.params.costs i taken) := by
  obtain hs | ⟨u, taken, hu, e⟩ := exec_cases i s
  · exact absurd h hs.not_next
  · exact ⟨u, taken, hu, Host.Outcome.next.inj (h.symm.trans e)⟩

/-- A part of the state that no update of an instruction changes, nor its cost, is kept by the instruction. -/
theorem exec_keeps {α : Sort*} {i : Instr} {s t : State} (h : exec i s = .next t) (p : State → α)
    (hp : ∀ u s, Update i u → p (u s) = p s) (hspend : ∀ s n, p (s.spend n) = p s) : p t = p s := by
  obtain ⟨u, taken, hu, rfl⟩ := exec_reaches h
  exact (hspend _ _).trans (hu.keeps p hp)

/-! ### Legal states -/

theorem State.legal_iff (s : State) :
    s.legal = true ↔ s.mem.wf = true ∧ s.im ≠ 3 ∧ (s.iff1 = true → s.iff2 = true) := by
  cases h1 : s.iff1 <;> simp [State.legal, State.imLegal, State.iffLegal, h1, and_assoc]

theorem Update.legal {i : Instr} {u : State → State} (hu : Update i u) {s : State} (h : s.legal = true) : (u s).legal = true := by
  obtain ⟨hmem, him, hiff⟩ := s.legal_iff.mp h
  rw [State.legal_iff]
  cases hu
  case poke a v => exact ⟨State.poke_wf s a v hmem, him, hiff⟩
  case setIm m hm hw => exact ⟨hmem, hm, hiff⟩
  case restoreIff1 => exact ⟨hmem, him, id⟩
  case clearIff => exact ⟨hmem, him, nofun⟩
  case setIff => exact ⟨hmem, him, fun _ => rfl⟩
  all_goals simpa [State.swapAf, State.swapBank] using ⟨hmem, him, hiff⟩

theorem Reaches.legal {i : Instr} {s t : State} (h : Reaches i s t) (hs : s.legal = true) : t.legal = true := by
  induction h with
  | refl => exact hs
  | tail _ hstep ih =>
    obtain ⟨u, hu, rfl⟩ := hstep
    exact hu.legal ih

theorem exec_legal {i : Instr} {s t : State} (h : exec i s = .next t) (hs : s.legal = true) : t.legal = true := by
  obtain ⟨u, taken, hu, rfl⟩ := exec_reaches h
  show u.legal = true
  exact hu.legal hs

theorem State.nmiTaken_legal {s : State} (h : s.legal = true) : s.nmiTaken.legal = true := by
  obtain ⟨hmem, him, -⟩ := s.legal_iff.mp h
  simpa [State.legal_iff, State.nmiTaken, State.pushed_wf, hmem] using him

theorem State.intTaken_legal {s : State} (a : Word) (price : Nat) (h : s.legal = true) : (s.intTaken a price).legal = true := by
  obtain ⟨hmem, him, -⟩ := s.legal_iff.mp h
  simpa [State.legal_iff, State.intTaken, State.intEntered, State.pushed_wf, hmem] using him

theorem State.intInvalid_legal {s : State} (h : s.legal = true) : s.intInvalid.legal = true := by
  obtain ⟨hmem, him, -⟩ := s.legal_iff.mp h
  simpa [State.legal_iff, State.intInvalid, State.intEntered, hmem] using him

theorem State.intAccept_legal {s : State} (h : s.legal = true) : s.intAccept.legal = true := by
  unfold State.intAccept
  split
  · exact State.intTaken_legal _ _ h
  · exact State.intTaken_legal _ _ h
  · exact State.intTaken_legal _ _ h
  · exact State.intInvalid_legal h

theorem State.checked_legal {s : State} (wasHalted : Bool) (h : s.legal = true) : (s.checked wasHalted).legal = true := by
  unfold State.checked
  split
  · exact h
  split
  · exact State.nmiTaken_legal h
  split
  · exact State.intAccept_legal h
  split <;> exact h

theorem interruptCheck_next {wasHalted : Bool} {s t : State} (h : interruptCheck wasHalted s = .next t) :
    ∃ n, t = (s.drawn n).checked wasHalted := by
  obtain hs | ⟨n, e⟩ := interruptCheck_cases wasHalted s
  · exact absurd h hs.not_next
  · exact ⟨n, Host.Outcome.next.inj (h.symm.trans e)⟩

/-- The state a step begins from, the boundary latch cleared (40_step_and_microops.md R131). -/
def State.unblocked (s : State) : State := { s with intBlock := .none }

@[simp] theorem State.unblocked_fetched (s : State) : s.unblocked.fetched = s.fetched := rfl

theorem State.unblocked_legal (s : State) : s.unblocked.legal = s.legal := rfl
theorem State.drawn_legal (s : State) (n : Nat) : (s.drawn n).legal = s.legal := rfl
theorem State.advance_legal (s : State) (i : Instr) : (s.advance i).legal = s.legal := rfl

/-- What a step that goes on does: a halted core only checks for interrupts; a running one executes what it fetched, then checks. -/
theorem step_next {s t : State} (h : step s = .next t) :
    (s.halted = true ∧ ∃ n, t = (s.unblocked.drawn n).checked true) ∨
    (s.halted = false ∧ ∃ m n u, exec s.fetched ((s.unblocked.drawn m).advance s.fetched) = .next u ∧
      t = (u.drawn n).checked false) := by
  cases hh : s.halted
  · rw [step_running s hh] at h
    obtain hs | ⟨m, e⟩ := fetch_cases s.unblocked fun i t => andThen (exec i t) (interruptCheck false)
    · exact absurd h hs.not_next
    · rw [← State.unblocked, e, State.unblocked_fetched, andThen_next_iff] at h
      obtain ⟨u, hu, hc⟩ := h
      obtain ⟨n, rfl⟩ := interruptCheck_next hc
      exact .inr ⟨rfl, m, n, u, hu, rfl⟩
  · rw [step_halted s hh] at h
    exact .inl ⟨rfl, interruptCheck_next h⟩

end Sys2Proof.Machine
end

section
/-! PROOFS. Two runs: nothing but T-states depends on the T-states and the `CYCLE_TABLE` a run begins with. -/

namespace Sys2Proof.Machine

open Claims

/-! ### Two runs that differ in T-states and `CYCLE_TABLE` -/

theorem Update.priced {i : Instr} {u : State → State} (hu : Update i u) (s : State) (c : BitVec 64) (table : CycleTable) :
    u (s.priced c table) = (u s).priced c table := by
  cases hu
  case set8 r v => cases r <;> rfl
  case set16 p v => cases p <;> rfl
  case setQQ q v => cases q <;> rfl
  case setIdx ii v h => cases ii <;> rfl
  all_goals rfl

theorem State.priced_zero (s : State) (table : CycleTable) : s.priced 0 table = { s with params := { s.params with costs := table } } := by
  simp [State.priced]

theorem State.priced_spend (s : State) (c : BitVec 64) (table : CycleTable) (m n : Nat) :
    (s.priced c table).spend m = (s.spend n).priced (c + BitVec.ofNat 64 m - BitVec.ofNat 64 n) table := by
  simp only [State.priced, State.spend]
  congr 1
  abel

/-- The answer of the run from the state with `c` more T-states and another table follows the answer `o` of the run from `s`: it is `o`
under that table with some more T-states, exactly `c` when the table is the old one. -/
def Follows (s : State) (c : BitVec 64) (table : CycleTable) (o o' : Result) : Prop :=
  (∃ d, o' = delayed d (retabled table o)) ∧ (s.params.costs = table → o' = delayed c o)

variable {s : State} {c : BitVec 64} {table : CycleTable}

theorem Follows.of_params {t : State} {o o' : Result} (h : Follows t c table o o') (hp : t.params = s.params) : Follows s c table o o' :=
  ⟨h.1, fun e => h.2 (hp ▸ e)⟩

/-- The end of a run: each pays its own price. -/
theorem follows_spend (price : CycleTable → Nat) :
    Follows s c table (.next (s.spend (price s.params.costs))) (.next ((s.priced c table).spend (price table))) := by
  refine ⟨⟨_, congrArg _ (s.priced_spend c table (price table) (price s.params.costs))⟩, ?_⟩
  rintro rfl
  rw [s.priced_spend c _ (price s.params.costs) (price s.params.costs), BitVec.add_sub_cancel]
  rfl

/-- Both runs draw the same free value at an access, so both fail there or both go on. -/
theorem follows_access {a : Word} {k k' : State → Result}
    (h : ∀ n, Follows (s.drawn n) c table (k (s.drawn n)) (k' ((s.drawn n).priced c table))) :
    Follows s c table (andThen (access a s) k) (andThen (access a (s.priced c table)) k') := by
  have hp : (s.priced c table).params.memFault = s.params.memFault := rfl
  have hd : (s.priced c table).draws = s.draws := rfl
  unfold access
  rw [hp, hd]
  split
  · split
    · refine ⟨⟨c, rfl⟩, ?_⟩
      rintro rfl
      rfl
    · exact h (s.draws + 1)
  · exact h s.draws

/-- No meaning can tell the two runs apart. -/
theorem Meaning.follows {i : Instr} {k : State → Result} (hk : Meaning i k) :
    ∀ s, Follows s c table (k s) (k (s.priced c table)) := by
  induction hk with
  | retire taken => exact fun s => follows_spend fun costs => cost costs i taken
  | @update u k hu _ ih =>
    intro s
    beta_reduce
    rw [hu.priced]
    exact (ih (u s)).of_params (hu.params_eq s)
  | access a _ ih => exact fun s => follows_access fun n => ih (s.drawn n)
  | @look α g k hg _ ih =>
    intro s
    beta_reduce
    rw [hg]
    exact ih (g s) s

theorem follows_accessBytes {k k' : State → Result}
    (h : ∀ n, Follows (s.drawn n) c table (k (s.drawn n)) (k' ((s.drawn n).priced c table))) :
    ∀ (m : Nat) (a : Word), Follows s c table (accessBytes m a s k) (accessBytes m a (s.priced c table) k') := by
  intro m
  induction m generalizing s with
  | zero => exact fun _ => h s.draws
  | succ m ih => exact fun a => follows_access fun n => ih (s := s.drawn n) h (a + 1)

theorem follows_readByte {a : Word} {k k' : Byte → State → Result}
    (h : ∀ n, Follows (s.drawn n) c table (k (s.peek a) (s.drawn n)) (k' (s.peek a) ((s.drawn n).priced c table))) :
    Follows s c table (readByte a s k) (readByte a (s.priced c table) k') :=
  follows_access h

theorem follows_writeByte {a : Word} {v : Byte} {k k' : State → Result}
    (h : ∀ n, Follows ((s.drawn n).poke a v) c table (k ((s.drawn n).poke a v)) (k' (((s.drawn n).poke a v).priced c table))) :
    Follows s c table (writeByte a v s k) (writeByte a v (s.priced c table) k') :=
  follows_access h

theorem follows_readWord {a : Word} {k k' : Word → State → Result}
    (h : ∀ n, Follows (s.drawn n) c table (k (s.peekWord a) (s.drawn n)) (k' (s.peekWord a) ((s.drawn n).priced c table))) :
    Follows s c table (readWord a s k) (readWord a (s.priced c table) k') :=
  follows_readByte fun _ => follows_readByte h

theorem follows_writeWord {a v : Word} {k k' : State → Result}
    (h : ∀ n, Follows ((s.drawn n).pokeWord a v) c table (k ((s.drawn n).pokeWord a v))
      (k' (((s.drawn n).pokeWord a v).priced c table))) :
    Follows s c table (writeWord a v s k) (writeWord a v (s.priced c table) k') :=
  follows_writeByte fun m => follows_writeByte (s := (s.drawn m).poke a (loByte v)) h

theorem follows_push16 {v : Word} {k k' : State → Result}
    (h : ∀ n, Follows ((s.drawn n).pushed v) c table (k ((s.drawn n).pushed v)) (k' (((s.drawn n).pushed v).priced c table))) :
    Follows s c table (push16 v s k) (push16 v (s.priced c table) k') :=
  follows_writeWord (s := { s with sp := s.sp - 2 }) h

theorem acceptNmi_follows : Follows s c table (acceptNmi s) (acceptNmi (s.priced c table)) :=
  follows_push16 (s := { s with halted := false, iff2 := s.iff1, iff1 := false }) fun n =>
    follows_spend (s := { (({ s with halted := false, iff2 := s.iff1, iff1 := false }.drawn n).pushed s.pc).jump 0x0066 with
      nmiPending := false }) nmiCost

/-- A dispatched maskable acceptance, whatever reads its target. -/
theorem takeInterrupt_follows {target : State → (Word → State → Result) → Result} (price : CycleTable → Nat)
    (ht : ∀ {s : State} {k k' : Word → State → Result},
      (∀ a n, Follows (s.drawn n) c table (k a (s.drawn n)) (k' a ((s.drawn n).priced c table))) →
      Follows s c table (target s k) (target (s.priced c table) k')) :
    Follows s c table (takeInterrupt (price s.params.costs) target s.intEntered fun s => .next { s with intPending := false })
      (takeInterrupt (price table) target (s.priced c table).intEntered fun s => .next { s with intPending := false }) :=
  follows_push16 (s := s.intEntered) fun m => ht fun a n =>
    follows_spend (s := { (((s.intEntered.drawn m).pushed s.pc).drawn n).jump a with intPending := false }) price

theorem acceptInt_follows : Follows s c table (acceptInt s) (acceptInt (s.priced c table)) := by
  have fixed := takeInterrupt_follows (s := s) (c := c) (table := table) (target := fixedTarget 0x0038) mode1Cost
    fun {s} {_} {_} h => h _ s.draws
  have vectored := takeInterrupt_follows (s := s) (c := c) (table := table) (target := vectorTarget) mode2Cost
    fun h => follows_readWord (h _)
  have him : (s.priced c table).im = s.im := rfl
  rcases hm : s.im.toNat with _ | _ | _ | m <;> simp only [acceptInt, him, hm]
  · exact fixed
  · exact fixed
  · exact vectored
  · exact ⟨⟨c, rfl⟩, by rintro rfl; rfl⟩

theorem follows_next : Follows s c table (.next s) (.next (s.priced c table)) := ⟨⟨c, rfl⟩, by rintro rfl; rfl⟩

theorem interruptCheck_follows (wasHalted : Bool) :
    Follows s c table (interruptCheck wasHalted s) (interruptCheck wasHalted (s.priced c table)) := by
  have hb : (s.priced c table).intBlock = s.intBlock := rfl
  have hn : (s.priced c table).nmiPending = s.nmiPending := rfl
  have hi : (s.priced c table).intAccepted = s.intAccepted := rfl
  unfold interruptCheck
  rw [hb, hn, hi]
  split
  · exact follows_next
  split
  · exact acceptNmi_follows
  split
  · exact acceptInt_follows
  split
  · exact follows_spend haltCost
  · exact follows_next

/-- Runs that follow each other go on so when what comes next keeps them together. -/
theorem Follows.andThen {o o' : Result} {k : State → Result} (h : Follows s c table o o') (hp : ∀ t, o = .next t → t.params = s.params)
    (hk : ∀ t d, Follows t d table (k t) (k (t.priced d table))) : Follows s c table (andThen o k) (andThen o' k) := by
  obtain ⟨⟨d, rfl⟩, hsame⟩ := h
  cases o with
  | next t =>
    refine ⟨(hk t d).1, fun e => ?_⟩
    obtain rfl : t.params.costs = table := by rw [hp t rfl, e]
    rw [hsame e]
    exact (hk t c).2 rfl
  | fault r => exact match r with | .memFault _ _ => ⟨⟨d, rfl⟩, hsame⟩
  | refused r => exact ⟨⟨d, rfl⟩, hsame⟩

theorem exec_params {i : Instr} {t : State} (h : exec i s = .next t) : t.params = s.params :=
  exec_keeps h State.params (fun _ s hu => hu.params_eq s) fun _ _ => rfl

theorem step_follows : Follows s c table (step s) (step (s.priced c table)) := by
  have hh : (s.priced c table).halted = s.halted := rfl
  unfold step
  rw [hh]
  split
  · exact interruptCheck_follows (s := s.unblocked) true
  · refine follows_accessBytes (s := s.unblocked) (fun n => ?_) _ _
    have h := (exec_meaning s.fetched).follows (c := c) (table := table) ((s.unblocked.drawn n).advance s.fetched)
    exact h.andThen (fun _ => exec_params) fun _ _ => interruptCheck_follows false

end Sys2Proof.Machine
end

section
/-! PROOFS. The statements of 10_state.md. -/

namespace Sys2Proof.Machine

open Claims

theorem hostReset_hasResetValues (s : State) : hasResetValues s.hostReset := by
  have hf : Flags.zero.toByte = 0 := by decide
  exact ⟨fun r => by cases r <;> rfl, hf, rfl, hf, rfl, rfl, rfl, rfl, rfl, rfl, rfl, rfl, rfl, rfl, rfl, rfl, rfl, rfl, rfl, rfl, rfl,
    rfl, rfl, rfl⟩

theorem and_bit7_toNat (r : Byte) : (r &&& 0x80).toNat = (r.toNat / 128) <<< 7 := by
  revert r; decide

theorem and_low7_toNat (r : Byte) : (r &&& 0x7F).toNat = r.toNat % 128 :=
  Nat.and_two_pow_sub_one_eq_mod r.toNat 7

theorem sext16_toNat (d : Byte) : ((sext16 d).toNat : Int) = d.toInt % 65536 := by
  rw [sext16, BitVec.signExtend, BitVec.toNat_ofInt]
  omega

theorem State.ea_toNat (s : State) (ii : Idx) (d : Byte) : ((s.ea ii d).toNat : Int) = ((s.idx ii).toNat + d.toInt) % 65536 := by
  have h := sext16_toNat d
  rw [State.ea, BitVec.toNat_add]
  omega

theorem State.idx_toNat (s : State) (ii : Idx) : (s.idx ii).toNat = (s.idxHi ii).toNat * 256 + (s.idxLo ii).toNat := by
  rw [State.idxHi, State.idxLo, ← joinBytes_toNat, joinBytes_hiByte_loByte]

/-- Settles O6: the initial state is its own host reset. -/
theorem resetValues : Obligations.ResetValues :=
  ⟨hostReset_hasResetValues State.reset, fun s => ⟨hostReset_hasResetValues s, rfl, rfl, rfl⟩⟩

/-- Settles O7: memory lists nothing, IM is 0 and both flip-flops are clear. -/
theorem resetLegal : Obligations.ResetLegal :=
  State.reset.legal_iff.mpr ⟨State.reset_wf, by decide, nofun⟩

/-- Settles O11: bit 7 and the low seven bits are apart, so their union is a sum. -/
theorem refreshCounter : Obligations.RefreshCounter := by
  intro r k
  have hlow : ((r + BitVec.ofNat 8 k) &&& 0x7F).toNat = (r.toNat % 128 + k) % 128 := by
    rw [and_low7_toNat, BitVec.toNat_add, BitVec.toNat_ofNat]
    omega
  calc (rInc r k).toNat = (r.toNat / 128) <<< 7 ||| (r.toNat % 128 + k) % 128 := by
        rw [rInc, BitVec.toNat_or, and_bit7_toNat, hlow]
    _ = r.toNat / 128 * 128 + (r.toNat % 128 + k) % 128 := by
        rw [← Nat.shiftLeft_add_eq_or_of_lt (by omega), Nat.shiftLeft_eq]

/-- Settles O20, from the laws of joined bytes and of reads after writes. -/
theorem pairsHalvesAndAddresses : Obligations.PairsHalvesAndAddresses := by
  intro s
  exact ⟨joinBytes_toNat _ _, joinBytes_toNat _ _, joinBytes_toNat _ _, joinBytes_toNat _ _,
    fun p v => ⟨s.get16_set16_same p v, fun q hq => s.get16_set16_other p q v hq⟩,
    fun ii v => ⟨s.idxHi_setIdxHi ii v, s.idxLo_setIdxHi ii v, s.idxLo_setIdxLo ii v, s.idxHi_setIdxLo ii v⟩,
    s.idx_toNat, s.ea_toNat⟩

/-- Settles O18: each part of the control state is kept by every update the other instructions may make. -/
theorem controlStateWriters : Obligations.ControlStateWriters := by
  intro i s t h
  exact ⟨fun hw => exec_keeps h State.im (fun _ s hu => hu.im_eq s hw) fun _ _ => rfl,
    fun hw => exec_keeps h State.iff1 (fun _ s hu => hu.iff1_eq s hw) fun _ _ => rfl,
    fun hd he => exec_keeps h State.iff2 (fun _ s hu => hu.iff2_eq s hd he) fun _ _ => rfl,
    fun hw => exec_keeps h State.i (fun _ s hu => hu.i_eq s hw) fun _ _ => rfl,
    fun hw => exec_keeps h State.r (fun _ s hu => hu.r_eq s hw) fun _ _ => rfl,
    fun hw => exec_keeps h State.halted (fun _ s hu => hu.halted_eq s hw) fun _ _ => rfl,
    exec_keeps h State.intPending (fun _ s hu => hu.intPending_eq s) fun _ _ => rfl,
    exec_keeps h State.nmiPending (fun _ s hu => hu.nmiPending_eq s) fun _ _ => rfl⟩

/-- Settles O19: the shadow set, the index registers and the I/O history are kept by every update the other instructions may make. -/
theorem shadowIndexAndIoWriters : Obligations.ShadowIndexAndIoWriters := by
  intro i s t h
  refine ⟨fun hw => ?_, fun hw => ?_, fun ii hw => ?_, fun hw => ?_⟩
  · simpa [State.shadowAf] using exec_keeps h State.shadowAf (fun _ s hu => hu.shadowAf_eq s hw) fun _ _ => rfl
  · simpa [State.shadowBank] using exec_keeps h State.shadowBank (fun _ s hu => hu.shadowBank_eq s hw) fun _ _ => rfl
  · exact exec_keeps h (State.idx · ii) (fun _ s hu => hu.idx_eq s hw) fun s n => s.spend_idx n ii
  · exact exec_keeps h State.io (fun _ s hu => hu.io_eq s hw) fun _ _ => rfl

/-- Settles O15: a run from other T-states or under another `CYCLE_TABLE` follows the first run through every access and branch. -/
theorem cyclesNeverRead : Obligations.CyclesNeverRead := by
  refine ⟨fun s c => ?_, fun s table => ?_⟩
  · exact (step_follows (c := c) (table := s.params.costs)).2 rfl
  · rw [← s.priced_zero table]
    exact step_follows.1

/-- Settles O8: every update an instruction may make keeps a state legal, so does every acceptance, and a step is made of these. -/
theorem stepKeepsLegal : Obligations.StepKeepsLegal := by
  intro s t hs h
  obtain ⟨-, n, rfl⟩ | ⟨-, m, n, u, hu, rfl⟩ := step_next h
  · exact State.checked_legal true (by rwa [State.drawn_legal, State.unblocked_legal])
  · refine State.checked_legal false ?_
    rw [State.drawn_legal]
    exact exec_legal hu (by rwa [State.advance_legal, State.drawn_legal, State.unblocked_legal])

end Sys2Proof.Machine
end

section
/-! PROOFS. The statements of 20_memory.md: where a step can stop, what its traces do, memory read after written, and the host. -/

namespace Sys2Proof.Machine

open Claims

/-! ### Where a step can stop -/

theorem Stops.andThen {s : State} {o : Result} (h : Stops s o) (k : State → Result) : Stops s (andThen o k) := by
  obtain ⟨hm, a, u, rfl⟩ := h
  exact ⟨hm, a, u, rfl⟩

/-- A running step stops in its fetch, in its instruction or in the check, or it goes on. -/
theorem step_cases (s : State) : Stops s (step s) ∨ ∃ t, step s = .next t := by
  cases hh : s.halted
  · rw [step_running s hh]
    obtain hs | ⟨m, e⟩ := fetch_cases s.unblocked fun i t => andThen (exec i t) (interruptCheck false)
    · exact .inl hs
    rw [← State.unblocked, e]
    obtain hs | ⟨u, taken, hu, e⟩ := exec_cases s.fetched ((s.unblocked.drawn m).advance s.fetched)
    · exact .inl (hs.andThen _)
    rw [State.unblocked_fetched, e, andThen_of_next]
    obtain hs | ⟨n, e⟩ := interruptCheck_cases false (u.spend (cost s.params.costs s.fetched taken))
    · have hp : u.params = _ := hu.keeps State.params fun _ s hu => hu.params_eq s
      exact .inl (hs.of_params hp)
    · exact .inr ⟨_, e⟩
  · rw [step_halted s hh]
    obtain hs | ⟨n, e⟩ := interruptCheck_cases true s.unblocked
    · exact .inl hs
    · exact .inr ⟨_, e⟩

/-- One access, with what decides it as one condition (20_memory.md R68). -/
theorem access_eq (a : Word) (s : State) :
    access a s = if s.params.memFault && Config.accessFails s.draws a then .fault (.memFault a (s.report (.memFault a)))
      else .next (s.drawn (if s.params.memFault then s.draws + 1 else s.draws)) := by
  unfold access
  cases s.params.memFault
  · rfl
  · cases Config.accessFails s.draws a <;> rfl

/-! ### What a step only appends to -/

/-- `t` has the parameters of `s`, and the traces of `s` with more events at their ends (20_memory.md R73, 47_cpu_control_io.md R429). -/
def Appends (s t : State) : Prop := t.params = s.params ∧ s.io <+: t.io ∧ s.diag <+: t.diag

theorem Appends.refl (s : State) : Appends s s := ⟨rfl, List.prefix_rfl, List.prefix_rfl⟩

theorem Appends.trans {s t u : State} (h : Appends s t) (h' : Appends t u) : Appends s u := by
  obtain ⟨hp, hio, hdiag⟩ := h
  obtain ⟨hp', hio', hdiag'⟩ := h'
  exact ⟨hp'.trans hp, hio.trans hio', hdiag.trans hdiag'⟩

theorem Update.appends {i : Instr} {u : State → State} (hu : Update i u) (s : State) : Appends s (u s) := by
  refine ⟨hu.params_eq s, ?_, ?_⟩
  · cases hu
    case readPort p h => exact List.prefix_append _ _
    case writePort p v h => exact List.prefix_append _ _
    all_goals simp [State.swapAf, State.swapBank]
  · cases hu
    case report op e h => exact List.prefix_append _ _
    all_goals simp [State.swapAf, State.swapBank]

theorem Reaches.appends {i : Instr} {s t : State} (h : Reaches i s t) : Appends s t := by
  induction h with
  | refl => exact .refl s
  | tail _ hstep ih =>
    obtain ⟨u, hu, rfl⟩ := hstep
    exact ih.trans (hu.appends _)

theorem State.spend_appends (s : State) (n : Nat) : Appends s (s.spend n) := ⟨rfl, List.prefix_rfl, List.prefix_rfl⟩

theorem exec_appends {i : Instr} {s t : State} (h : exec i s = .next t) : Appends s t := by
  obtain ⟨u, taken, hu, rfl⟩ := exec_reaches h
  exact hu.appends.trans (u.spend_appends _)

theorem State.nmiTaken_appends (s : State) : Appends s s.nmiTaken := by
  simp [Appends, State.nmiTaken]

theorem State.intTaken_appends (s : State) (a : Word) (price : Nat) : Appends s (s.intTaken a price) := by
  simp [Appends, State.intTaken, State.intEntered]

theorem State.intInvalid_appends (s : State) : Appends s s.intInvalid :=
  ⟨rfl, List.prefix_rfl, List.prefix_append _ _⟩

theorem State.intAccept_appends (s : State) : Appends s s.intAccept := by
  unfold State.intAccept
  split
  · exact s.intTaken_appends _ _
  · exact s.intTaken_appends _ _
  · exact s.intTaken_appends _ _
  · exact s.intInvalid_appends

theorem State.checked_appends (s : State) (wasHalted : Bool) : Appends s (s.checked wasHalted) := by
  unfold State.checked
  split
  · exact .refl s
  split
  · exact s.nmiTaken_appends
  split
  · exact s.intAccept_appends
  split
  · exact s.spend_appends _
  · exact .refl s

theorem step_appends {s t : State} (h : step s = .next t) : Appends s t := by
  obtain ⟨-, n, rfl⟩ | ⟨-, m, n, u, hu, rfl⟩ := step_next h
  · exact (s.unblocked.drawn n).checked_appends true
  · have hexec := exec_appends hu
    have hcheck := (u.drawn n).checked_appends false
    exact hexec.trans hcheck

/-! ### Memory after a store -/

theorem State.peek_poke (s : State) (a b : Word) (v : Byte) : (s.poke a v).peek b = if b = a then v else s.peek b := by
  split
  · next h => rw [h, State.peek_poke_same]
  · next h => exact s.peek_poke_other a b v h

theorem State.holdsWord_pokeWord (s : State) (a v : Word) : holdsWord (s.pokeWord a v) a v := by
  have hlo : (s.pokeWord a v).peek a = loByte v := by
    rw [State.pokeWord, State.peek_poke_other _ _ _ _ (word_add_one_ne a).symm, State.peek_poke_same]
  exact ⟨hlo, State.peek_poke_same _ _ _⟩

/-! ### Loading -/

theorem word_add_ofNat_succ (a : Word) (k : Nat) : a + BitVec.ofNat 16 (k + 1) = a + 1 + BitVec.ofNat 16 k := by
  bv_omega

/-- Fewer than 65,535 addresses after the next one do not come round to the first. -/
theorem word_ne_add_one_add_ofNat (a : Word) {k : Nat} (hk : k < 65535) : a ≠ a + 1 + BitVec.ofNat 16 k := by
  bv_omega

theorem isLoaded_nil (s : State) (a : Word) : isLoaded s s [] a := ⟨nofun, fun _ _ => rfl, rfl⟩

/-- A load after the first byte is a load of all bytes, as long as it does not come round to the first. -/
theorem isLoaded_cons {s t : State} {v : Byte} {vs : List Byte} {a : Word} (hlen : vs.length < 65536)
    (h : isLoaded (s.poke a v) t vs (a + 1)) : isLoaded s t (v :: vs) a := by
  obtain ⟨hin, hout, hframe⟩ := h
  refine ⟨fun k hk => ?_, fun b hb => ?_, ?_⟩
  · cases k with
    | zero =>
      have hfirst : t.peek a = (s.poke a v).peek a := hout a fun k hk => word_ne_add_one_add_ofNat a (by omega)
      simpa using hfirst
    | succ k =>
      rw [word_add_ofNat_succ]
      exact hin k (Nat.lt_of_succ_lt_succ hk)
  · have hne : b ≠ a := by simpa using hb 0 (Nat.zero_lt_succ _)
    rw [hout b fun k hk => word_add_ofNat_succ a k ▸ hb (k + 1) (Nat.succ_lt_succ hk), s.peek_poke_other a b v hne]
  · exact congrArg (fun u : State => { u with mem := s.mem }) hframe

theorem State.loadProgram_isLoaded (vs : List Byte) :
    ∀ (s : State) (a : Word), vs.length ≤ 65536 → isLoaded s (s.loadProgram vs a) vs a := by
  induction vs with
  | nil => exact fun s a _ => isLoaded_nil s a
  | cons v vs ih => exact fun s a hlen => isLoaded_cons hlen (ih (s.poke a v) (a + 1) (Nat.le_of_succ_le hlen))

/-! ### The statements -/

/-- Settles O13: `step_cases` for the step, and an access is decided by one condition before it reads or writes. -/
theorem stepStopsOnlyByMemFault : Obligations.StepStopsOnlyByMemFault := by
  refine ⟨fun s => (step_cases s).symm, fun s a v read wrote => ⟨?_, ?_⟩⟩
  · rw [readByte, access_eq]
    split <;> rfl
  · rw [writeByte, access_eq]
    split <;> rfl

/-- Settles O16: updates, acceptances and the cost keep the parameters and only append to the traces, and a step is made of these. -/
theorem tracesOnlyGrow : Obligations.TracesOnlyGrow := by
  intro s t h
  obtain ⟨hp, ⟨l, hio⟩, ⟨l', hdiag⟩⟩ := step_appends h
  exact ⟨hp, ⟨l, hio.symm⟩, ⟨l', hdiag.symm⟩⟩

/-- Settles O21, from the laws of one byte and of one word. -/
theorem readAfterWrite : Obligations.ReadAfterWrite := by
  refine ⟨State.peek_poke, fun s a v h => ?_⟩
  refine ⟨fun _ => readByte_ok h, fun _ => readWord_ok h, fun _ _ => writeByte_ok h, fun k => ?_, s.pokeWord a v, writeWord_ok h,
    s.holdsWord_pokeWord a v, fun b hb => ?_⟩
  · rw [writeWord_ok h, writeWord_ok h, readWord_ok (s := s.pokeWord a v) h, State.peekWord_pokeWord]
  · obtain ⟨h0, h1⟩ : b ≠ a ∧ b ≠ a + 1 := by simpa [wordBytes] using hb
    exact s.peek_pokeWord_other a v b h0 h1

/-- Settles O59: a load is right by induction on its bytes; the rest is what the actions are. -/
theorem hostActions : Obligations.HostActions := fun s =>
  ⟨⟨hostReset_hasResetValues s, rfl, rfl, rfl⟩, fun _ vs => State.loadProgram_isLoaded vs s, fun _ => ⟨rfl, rfl⟩⟩

/-- Settles O60: the load's law needs no `MEM_FAULT = false`, and a host's write is the load of one byte. -/
theorem hostChoices : Obligations.HostChoices := fun s =>
  ⟨rfl, fun vs => State.loadProgram_isLoaded vs s, fun a v => State.loadProgram_isLoaded [v] s a (Nat.le_add_left 1 65535)⟩

end Sys2Proof.Machine
end

section
/-! PROOFS. The laws of the instructions' bytes, for every instruction at once. -/

namespace Sys2Proof.Laws.EncodedBytes

/-- Every instruction has the bytes and the opcode fetches of its form. -/
theorem statement (i : Instr) : Statement i :=
  i.casesOn ldRrNn incRr decRr incR decR ldRN ldMemHlN addHlRr djnzE jrE jrCcE ldMemNnHl ldHlMemNn ldMemNnA ldAMemNn ldRR
    ldRMemHl ldMemHlR addAR addAN adcAR adcAN subR subN sbcAR sbcAN andR andN xorR xorN orR orN cpR cpN retCc popQq jpCcNn jpNn
    callCcNn pushQq rstP callNn outMemNA inAMemN rlcR rrcR rlR rrR slaR sraR sllR srlR bitBR bitBMemHl resBR resBMemHl setBR
    setBMemHl inRMemC outMemCR sbcHlRr adcHlRr ldMemNnRr ldRrMemNn negDup retnDup im0Dup unmappedEd addIiBc addIiDe addIiIi
    addIiSp ldIiNn ldMemNnIi incIi ldIiMemNn decIi incIih decIih ldIihN incIil decIil ldIilN incMemIid decMemIid ldMemIidN
    ldBIih ldBIil ldBMemIid ldCIih ldCIil ldCMemIid ldDIih ldDIil ldDMemIid ldEIih ldEIil ldEMemIid ldIihB ldIihC ldIihD ldIihE
    ldIihIih ldIihIil ldHMemIid ldIihA ldIilB ldIilC ldIilD ldIilE ldIilIih ldIilIil ldLMemIid ldIilA ldMemIidB ldMemIidC
    ldMemIidD ldMemIidE ldMemIidH ldMemIidL ldMemIidA ldAIih ldAIil ldAMemIid addAIih addAIil addAMemIid adcAIih adcAIil
    adcAMemIid subIih subIil subMemIid sbcAIih sbcAIil sbcAMemIid andIih andIil andMemIid xorIih xorIil xorMemIid orIih orIil
    orMemIid cpIih cpIil cpMemIid popIi exMemSpIi pushIi jpIi ldSpIi lonePrefix rlcMemIid rlcMemIidR rrcMemIid rrcMemIidR
    rlMemIid rlMemIidR rrMemIid rrMemIidR slaMemIid slaMemIidR sraMemIid sraMemIidR sllMemIid sllMemIidR srlMemIid srlMemIidR
    bitBMemIid resBMemIid resBMemIidR setBMemIid setBMemIidR nop ldMemBcA ldMemDeA incMemHl decMemHl rlca rrca rla rra exAfAf
    ldAMemBc ldAMemDe daa cpl scf ccf halt addAMemHl adcAMemHl subMemHl sbcAMemHl andMemHl xorMemHl orMemHl cpMemHl popAf ret
    exx exMemSpHl jpHl exDeHl di ldSpHl ei rlcMemHl rrcMemHl rlMemHl rrMemHl slaMemHl sraMemHl sllMemHl srlMemHl inMemC outMemC0
    neg retn reti im0 im1 im1Dup im2 im2Dup ldIA ldRegRA ldAI ldARegR rrd rld ldi ldd ldir lddr cpi cpd cpir cpdr ini ind inir
    indr outi outd otir otdr

end Sys2Proof.Laws.EncodedBytes
end

section
/-! PROOFS. The decoder read table by table: what it reads is well formed, and the bytes begin with that instruction's own. -/

namespace Sys2Proof.Machine

/-! ### Opcode bytes by their fields -/

@[simp] theorem fieldX_opByte (x : BitVec 2) (y z : BitVec 3) : fieldX (opByte x y z) = x := by
  revert x y z; decide

@[simp] theorem fieldY_opByte (x : BitVec 2) (y z : BitVec 3) : fieldY (opByte x y z) = y := by
  revert x y z; decide

@[simp] theorem fieldZ_opByte (x : BitVec 2) (y z : BitVec 3) : fieldZ (opByte x y z) = z := by
  revert x y z; decide

theorem opByte_fields (op : Byte) : opByte (fieldX op) (fieldY op) (fieldZ op) = op := by
  revert op; decide

/-- A byte lies in one of the four quadrants (30_encoding.md R102 to R104). -/
theorem quadrant_cases {P : Byte → Prop} (x0 : ∀ y z, P (opByte 0 y z)) (x1 : ∀ y z, P (opByte 1 y z))
    (x2 : ∀ y z, P (opByte 2 y z)) (x3 : ∀ y z, P (opByte 3 y z)) (op : Byte) : P op := by
  have hx : fieldX op = 0 ∨ fieldX op = 1 ∨ fieldX op = 2 ∨ fieldX op = 3 := by
    generalize fieldX op = x
    revert x; decide
  rw [← opByte_fields op]
  obtain hx | hx | hx | hx := hx <;> rw [hx]
  · exact x0 _ _
  · exact x1 _ _
  · exact x2 _ _
  · exact x3 _ _

/-- The eight values of a field y or z. -/
theorem field_cases {P : BitVec 3 → Prop} (f0 : P 0) (f1 : P 1) (f2 : P 2) (f3 : P 3) (f4 : P 4) (f5 : P 5) (f6 : P 6) (f7 : P 7)
    (y : BitVec 3) : P y := by
  have h : y = 0 ∨ y = 1 ∨ y = 2 ∨ y = 3 ∨ y = 4 ∨ y = 5 ∨ y = 6 ∨ y = 7 := by
    revert y; decide
  obtain rfl | rfl | rfl | rfl | rfl | rfl | rfl | rfl := h <;> assumption

/-- Two bytes are the two halves of a word, so that a form with an immediate word can be checked on the word itself. -/
theorem exists_word (lo hi : Byte) : ∃ nn : Word, lo = loByte nn ∧ hi = hiByte nn :=
  ⟨joinBytes hi lo, (loByte_joinBytes hi lo).symm, (hiByte_joinBytes hi lo).symm⟩

/-! ### What a table reads -/

/-- `i` is well formed and the bytes begin with its encoding. -/
def Reads (i : Instr) (bs : List Byte) : Prop := i.wf = true ∧ encode i <+: bs

theorem Reads.of_encode {i : Instr} {bs : List Byte} (h : i.wf = true ∧ encode i = bs) (tl : List Byte) : Reads i (bs ++ tl) := by
  obtain ⟨hwf, rfl⟩ := h
  exact ⟨hwf, List.prefix_append _ _⟩

/-! A table that takes no operand from the bytes after it is checked at every opcode byte at once.  In the others the fields y and z pick
the form, and the form is computed with its operands left unknown. -/

theorem decodeCb_reads : ∀ op : Byte, (decodeCb op).wf = true ∧ encode (decodeCb op) = [0xCB, op] := by decide

theorem decodeBase1_reads :
    ∀ y z : BitVec 3, (decodeBase1 (opByte 1 y z)).wf = true ∧ encode (decodeBase1 (opByte 1 y z)) = [opByte 1 y z] := by decide

theorem decodeBase2_reads :
    ∀ y z : BitVec 3, (decodeBase2 (opByte 2 y z)).wf = true ∧ encode (decodeBase2 (opByte 2 y z)) = [opByte 2 y z] := by decide

theorem decodeEd2_reads :
    ∀ y z : BitVec 3, (decodeEd2 (opByte 2 y z)).wf = true ∧ encode (decodeEd2 (opByte 2 y z)) = [0xED, opByte 2 y z] := by decide

theorem isUnmappedEd_outer : ∀ y z : BitVec 3, isUnmappedEd (opByte 0 y z) = true ∧ isUnmappedEd (opByte 3 y z) = true := by decide

theorem decodeXcb_reads (ii : Idx) (d op : Byte) :
    (decodeXcb ii d op).wf = true ∧ encode (decodeXcb ii d op) = [ii.byte, 0xCB, d, op] := by
  cases op using quadrant_cases with
  | _ y z => cases y using field_cases <;> cases z using field_cases <;> exact ⟨rfl, rfl⟩

section
variable (ii : Idx) (y z : BitVec 3) (b1 b2 b3 : Byte)

theorem decodeEd1_reads : Reads (decodeEd1 (opByte 1 y z) b2 b3) [0xED, opByte 1 y z, b2, b3] := by
  obtain ⟨nn, rfl, rfl⟩ := exists_word b2 b3
  simp only [decodeEd1, joinBytes_hiByte_loByte]
  cases y using field_cases <;> cases z using field_cases <;> exact ⟨rfl, _, rfl⟩

theorem decodeIdx0_reads : Reads (decodeIdx0 ii (opByte 0 y z) b2 b3) [ii.byte, opByte 0 y z, b2, b3] := by
  obtain ⟨nn, rfl, rfl⟩ := exists_word b2 b3
  simp only [decodeIdx0, joinBytes_hiByte_loByte]
  cases y using field_cases <;> cases z using field_cases <;> exact ⟨rfl, _, rfl⟩

theorem decodeIdxLd_reads : Reads (decodeIdxLd ii y z b2) [ii.byte, opByte 1 y z, b2, b3] := by
  cases y using field_cases <;> cases z using field_cases <;> exact ⟨rfl, _, rfl⟩

theorem decodeIdxAlu_reads : Reads (decodeIdxAlu ii y z b2) [ii.byte, opByte 2 y z, b2, b3] := by
  cases y using field_cases <;> cases z using field_cases <;> exact ⟨rfl, _, rfl⟩

theorem decodeIdx3_reads : Reads (decodeIdx3 ii (opByte 3 y z) b2 b3) [ii.byte, opByte 3 y z, b2, b3] := by
  cases y using field_cases <;> cases z using field_cases
  case f1.f3 => exact .of_encode (decodeXcb_reads ii b2 b3) []
  all_goals exact ⟨rfl, _, rfl⟩

theorem decodeBase0_reads : Reads (decodeBase0 (opByte 0 y z) b1 b2) [opByte 0 y z, b1, b2, b3] := by
  obtain ⟨nn, rfl, rfl⟩ := exists_word b1 b2
  simp only [decodeBase0, joinBytes_hiByte_loByte]
  cases y using field_cases <;> cases z using field_cases <;> exact ⟨rfl, _, rfl⟩

end

theorem decodeEd_reads (op b2 b3 : Byte) : Reads (decodeEd op b2 b3) [0xED, op, b2, b3] := by
  cases op using quadrant_cases <;> rename_i y z <;> simp only [decodeEd, fieldX_opByte]
  case x0 => exact .of_encode (i := .unmappedEd _) ⟨(isUnmappedEd_outer y z).1, rfl⟩ [b2, b3]
  case x1 => exact decodeEd1_reads y z b2 b3
  case x2 => exact .of_encode (decodeEd2_reads y z) [b2, b3]
  case x3 => exact .of_encode (i := .unmappedEd _) ⟨(isUnmappedEd_outer y z).2, rfl⟩ [b2, b3]

theorem decodeIdx_reads (ii : Idx) (op b2 b3 : Byte) : Reads (decodeIdx ii op b2 b3) [ii.byte, op, b2, b3] := by
  cases op using quadrant_cases <;> rename_i y z <;> simp only [decodeIdx, fieldX_opByte, fieldY_opByte, fieldZ_opByte]
  case x0 => exact decodeIdx0_reads ii y z b2 b3
  case x1 => exact decodeIdxLd_reads ii y z b2 b3
  case x2 => exact decodeIdxAlu_reads ii y z b2 b3
  case x3 => exact decodeIdx3_reads ii y z b2 b3

theorem decodeBase3_reads (y z : BitVec 3) (b1 b2 b3 : Byte) :
    Reads (decodeBase3 (opByte 3 y z) b1 b2 b3) [opByte 3 y z, b1, b2, b3] := by
  obtain ⟨nn, rfl, rfl⟩ := exists_word b1 b2
  simp only [decodeBase3, joinBytes_hiByte_loByte]
  cases y using field_cases <;> cases z using field_cases
  case f1.f3 => exact .of_encode (decodeCb_reads _) [_, b3]
  case f3.f5 => exact decodeIdx_reads .ix _ _ b3
  case f5.f5 => exact decodeEd_reads _ _ b3
  case f7.f5 => exact decodeIdx_reads .iy _ _ b3
  all_goals exact ⟨rfl, _, rfl⟩

theorem decodeBytes_reads (b0 b1 b2 b3 : Byte) : Reads (decodeBytes b0 b1 b2 b3) [b0, b1, b2, b3] := by
  cases b0 using quadrant_cases <;> rename_i y z <;> simp only [decodeBytes, fieldX_opByte]
  case x0 => exact decodeBase0_reads y z b1 b2 b3
  case x1 => exact .of_encode (decodeBase1_reads y z) [b1, b2, b3]
  case x2 => exact .of_encode (decodeBase2_reads y z) [b1, b2, b3]
  case x3 => exact decodeBase3_reads y z b1 b2 b3

/-- Settles O3: the bytes begin with the encoding of what the decoder reads, which has the length of its form. -/
theorem encodeOfDecode : Obligations.EncodeOfDecode := by
  intro b0 b1 b2 b3
  obtain ⟨hwf, hprefix⟩ := decodeBytes_reads b0 b1 b2 b3
  obtain ⟨hlen, -⟩ := Laws.EncodedBytes.statement (decodeBytes b0 b1 b2 b3)
  exact ⟨hwf, hlen ▸ List.prefix_iff_eq_take.mp hprefix⟩

/-- Settles O5, from the law of each instruction's bytes. -/
theorem bytesAndFetches : Obligations.BytesAndFetches := Laws.EncodedBytes.statement

end Sys2Proof.Machine
end

section
/-! PROOFS. The encoder read back: the decoder's answer on an instruction's own bytes. -/

namespace Sys2Proof.Machine

/-! ### What the decoder looks at -/

/-- The instruction at the head of a list of bytes, a missing byte read as 0. -/
def decodeHead (bs : List Byte) : Instr := decodeBytes (bs.getD 0 0) (bs.getD 1 0) (bs.getD 2 0) (bs.getD 3 0)

theorem decodeHead_cons (b : Byte) (rest : List Byte) :
    decodeHead (b :: rest) = decodeBytes b (rest.getD 0 0) (rest.getD 1 0) (rest.getD 2 0) := rfl

theorem decodeHead_cb (op : Byte) (rest : List Byte) : decodeHead (0xCB :: op :: rest) = decodeCb op :=
  decodeHead_cons _ _

theorem decodeHead_ed (op : Byte) (rest : List Byte) : decodeHead (0xED :: op :: rest) = decodeEd op (rest.getD 0 0) (rest.getD 1 0) :=
  decodeHead_cons _ _

theorem decodeHead_idx (ii : Idx) (op : Byte) (rest : List Byte) :
    decodeHead (ii.byte :: op :: rest) = decodeIdx ii op (rest.getD 0 0) (rest.getD 1 0) := by
  cases ii <;> exact decodeHead_cons _ _

theorem decodeHead_xcb (ii : Idx) (d op : Byte) (rest : List Byte) :
    decodeHead (ii.byte :: 0xCB :: d :: op :: rest) = decodeXcb ii d op :=
  decodeHead_idx ii _ _

/-- An instruction read at the head of its own bytes is decoded, when the bytes after it suffice to know its form. -/
theorem decode_encode_append {i : Instr} {rest : List Byte} (hread : decodeHead (encode i ++ rest) = i)
    (hseen : i.bytesSeen ≤ i.length + rest.length) : decode (encode i ++ rest) = .ok (i, rest) := by
  obtain ⟨hlen, -⟩ := Laws.EncodedBytes.statement i
  rw [decodeHead] at hread
  simp only [decode, hread, List.length_append, hlen, if_pos hseen]
  rw [← hlen, List.drop_left]

/-! ### The no-op forms -/

theorem decodeEd_of_isUnmappedEd {op : Byte} (h : isUnmappedEd op = true) (b2 b3 : Byte) : decodeEd op b2 b3 = .unmappedEd op := by
  have inner : ∀ y z, isUnmappedEd (opByte 1 y z) = true → z = 7 ∧ (y = 6 ∨ y = 7) := by decide
  have block : ∀ y z, isUnmappedEd (opByte 2 y z) = true → decodeEd2 (opByte 2 y z) = .unmappedEd (opByte 2 y z) := by decide
  cases op using quadrant_cases <;> rename_i y z <;> simp only [decodeEd, fieldX_opByte]
  case x0 => rfl
  case x1 => obtain ⟨rfl, rfl | rfl⟩ := inner y z h <;> rfl
  case x2 => exact block y z h
  case x3 => rfl

/-- Whether an instruction is a lone DD or FD (30_encoding.md R112). -/
def isLone : Instr → Bool
  | .lonePrefix _ => true
  | _ => false

theorem isLone_iff (i : Instr) : isLone i = true ↔ ∃ ii, i = .lonePrefix ii := by
  unfold isLone
  split
  · exact iff_of_true rfl ⟨_, rfl⟩
  · next hne => exact iff_of_false Bool.false_ne_true fun ⟨ii, h⟩ => hne ii h

section
variable (ii : Idx) (y z : BitVec 3) (b2 b3 : Byte)

theorem decodeIdx0_isLone : isLone (decodeIdx0 ii (opByte 0 y z) b2 b3) = !isIndexed (opByte 0 y z) := by
  cases y using field_cases <;> cases z using field_cases <;> rfl

theorem decodeIdxLd_isLone : isLone (decodeIdxLd ii y z b2) = !isIndexed (opByte 1 y z) := by
  cases y using field_cases <;> cases z using field_cases <;> rfl

theorem decodeIdxAlu_isLone : isLone (decodeIdxAlu ii y z b2) = !isIndexed (opByte 2 y z) := by
  cases y using field_cases <;> cases z using field_cases <;> rfl

theorem decodeXcb_isLone (op : Byte) : isLone (decodeXcb ii b2 op) = false := by
  rw [← Bool.not_eq_true, isLone_iff]
  rintro ⟨jj, h⟩
  obtain ⟨-, hbytes⟩ := decodeXcb_reads ii b2 op
  rw [h] at hbytes
  have hlen : 1 = 4 := congrArg List.length hbytes
  omega

theorem decodeIdx3_isLone : isLone (decodeIdx3 ii (opByte 3 y z) b2 b3) = !isIndexed (opByte 3 y z) := by
  cases y using field_cases <;> cases z using field_cases
  case f1.f3 => exact decodeXcb_isLone ii b2 b3
  all_goals rfl

end

theorem decodeIdx_isLone (ii : Idx) (op b2 b3 : Byte) : isLone (decodeIdx ii op b2 b3) = !isIndexed op := by
  cases op using quadrant_cases <;> rename_i y z <;> simp only [decodeIdx, fieldX_opByte, fieldY_opByte, fieldZ_opByte]
  case x0 => exact decodeIdx0_isLone ii y z b2 b3
  case x1 => exact decodeIdxLd_isLone ii y z b2
  case x2 => exact decodeIdxAlu_isLone ii y z b2
  case x3 => exact decodeIdx3_isLone ii y z b2 b3

/-- DD or FD stands alone exactly before a byte that selects no row (30_encoding.md R111, R112). -/
theorem decodeIdx_eq_lonePrefix_iff (ii : Idx) (op b2 b3 : Byte) : decodeIdx ii op b2 b3 = .lonePrefix ii ↔ isIndexed op = false := by
  rw [← Bool.not_eq_true', ← decodeIdx_isLone ii op b2 b3, isLone_iff]
  refine ⟨fun h => ⟨ii, h⟩, fun ⟨jj, h⟩ => ?_⟩
  obtain ⟨-, hprefix⟩ := decodeIdx_reads ii op b2 b3
  have hbyte : jj.byte = ii.byte := by
    rw [h] at hprefix
    exact (List.cons_prefix_cons.mp hprefix).1
  have hjj : jj = ii := by
    revert hbyte
    cases jj <;> cases ii <;> decide
  rw [h, hjj]

/-! ### Every other form -/

@[simp] theorem Reg8.ofCode_code (r : Reg8) : Reg8.ofCode r.code = some r := by
  cases r <;> rfl

@[simp] theorem Reg8.ofCode_six : Reg8.ofCode 6#3 = none := rfl

/-- A form other than the lone DD or FD is read from its own bytes, whatever follows. -/
theorem decodeHead_encode {i : Instr} (hwf : i.wf = true) (hlone : ∀ ii, i ≠ .lonePrefix ii) (rest : List Byte) :
    decodeHead (encode i ++ rest) = i := by
  cases i
  case lonePrefix ii => exact absurd rfl (hlone ii)
  -- the forms that are restricted
  case jrCcE cc e =>
    cases cc
    case nz | z | nc | c => exact decodeHead_cons _ _
    all_goals exact absurd hwf nofun
  case popQq qq =>
    cases qq
    case af => exact absurd hwf nofun
    all_goals exact decodeHead_cons _ _
  case negDup y =>
    cases y using field_cases
    case f0 => exact absurd hwf nofun
    all_goals exact decodeHead_ed _ _
  case retnDup y =>
    cases y using field_cases
    case f0 | f1 => exact absurd hwf nofun
    all_goals exact decodeHead_ed _ _
  case im0Dup y =>
    cases y using field_cases
    case f1 | f4 | f5 => exact decodeHead_ed _ _
    all_goals exact absurd hwf nofun
  case unmappedEd op => exact (decodeHead_ed op rest).trans (decodeEd_of_isUnmappedEd hwf _ _)
  -- the forms with an immediate word
  case ldMemNnHl nn | ldHlMemNn nn | ldMemNnA nn | ldAMemNn nn | jpNn nn | callNn nn =>
    exact (decodeHead_cons _ _).trans (congrArg _ (joinBytes_hiByte_loByte nn))
  case ldRrNn rr nn => cases rr <;> exact (decodeHead_cons _ _).trans (congrArg _ (joinBytes_hiByte_loByte nn))
  case jpCcNn cc nn | callCcNn cc nn => cases cc <;> exact (decodeHead_cons _ _).trans (congrArg _ (joinBytes_hiByte_loByte nn))
  case ldMemNnRr rr nn | ldRrMemNn rr nn => cases rr <;> exact (decodeHead_ed _ _).trans (congrArg _ (joinBytes_hiByte_loByte nn))
  case ldIiNn ii nn | ldMemNnIi ii nn | ldIiMemNn ii nn =>
    exact (decodeHead_idx ii _ _).trans (congrArg _ (joinBytes_hiByte_loByte nn))
  -- the CB and displaced-CB tables
  case rlcR | rrcR | rlR | rrR | slaR | sraR | sllR | srlR | rlcMemHl | rrcMemHl | rlMemHl | rrMemHl | slaMemHl | sraMemHl | sllMemHl
      | srlMemHl | bitBR | bitBMemHl | resBR | resBMemHl | setBR | setBMemHl =>
    exact (decodeHead_cb _ rest).trans (by simp [decodeCb])
  case rlcMemIid | rlcMemIidR | rrcMemIid | rrcMemIidR | rlMemIid | rlMemIidR | rrMemIid | rrMemIidR | slaMemIid | slaMemIidR | sraMemIid
      | sraMemIidR | sllMemIid | sllMemIidR | srlMemIid | srlMemIidR | bitBMemIid | resBMemIid | resBMemIidR | setBMemIid | setBMemIidR =>
    exact (decodeHead_xcb _ _ _ rest).trans (by simp [decodeXcb])
  -- the forms that name a register, a pair or a condition
  case incRr rr | decRr rr | addHlRr rr => cases rr <;> exact decodeHead_cons _ _
  case pushQq qq => cases qq <;> exact decodeHead_cons _ _
  case retCc cc => cases cc <;> exact decodeHead_cons _ _
  case rstP y => cases y using field_cases <;> exact decodeHead_cons _ _
  case incR r | decR r | ldRN r _ | ldRMemHl r | ldMemHlR r | addAR r | adcAR r | subR r | sbcAR r | andR r | xorR r | orR r | cpR r =>
    cases r <;> exact decodeHead_cons _ _
  case ldRR r r' => cases r <;> cases r' <;> exact decodeHead_cons _ _
  case sbcHlRr rr | adcHlRr rr => cases rr <;> exact decodeHead_ed _ _
  case inRMemC r | outMemCR r => cases r <;> exact decodeHead_ed _ _
  -- the other forms of the base table, of the ED table, and of the DD and FD tables
  case ldMemHlN | djnzE | jrE | addAN | adcAN | subN | sbcAN | andN | xorN | orN | cpN | outMemNA | inAMemN | nop | ldMemBcA | ldMemDeA
      | incMemHl | decMemHl | rlca | rrca | rla | rra | exAfAf | ldAMemBc | ldAMemDe | daa | cpl | scf | ccf | halt | addAMemHl | adcAMemHl
      | subMemHl | sbcAMemHl | andMemHl | xorMemHl | orMemHl | cpMemHl | popAf | ret | exx | exMemSpHl | jpHl | exDeHl | di | ldSpHl | ei =>
    exact decodeHead_cons _ _
  case inMemC | outMemC0 | neg | retn | reti | im0 | im1 | im1Dup | im2 | im2Dup | ldIA | ldRegRA | ldAI | ldARegR | rrd | rld | ldi | ldd
      | ldir | lddr | cpi | cpd | cpir | cpdr | ini | ind | inir | indr | outi | outd | otir | otdr =>
    exact decodeHead_ed _ _
  all_goals exact decodeHead_idx _ _ _

theorem bytesSeen_of_ne {i : Instr} (hlone : ∀ ii, i ≠ .lonePrefix ii) : i.bytesSeen = i.length := by
  unfold Instr.bytesSeen
  split
  · exact absurd rfl (hlone _)
  · rfl

/-- Settles O2: a lone DD or FD is known by the byte after it, every other form by its own bytes. -/
theorem decodeOfEncode : Obligations.DecodeOfEncode := by
  intro i rest hwf hnext
  by_cases hlone : ∃ ii, i = .lonePrefix ii
  · obtain ⟨ii, rfl⟩ := hlone
    obtain ⟨b, tl, rfl, hb⟩ := hnext ii rfl
    have hread := (decodeHead_idx ii b tl).trans ((decodeIdx_eq_lonePrefix_iff ii b _ _).mpr hb)
    refine decode_encode_append hread ?_
    show 2 ≤ 1 + (tl.length + 1)
    omega
  · have hne := not_exists.mp hlone
    exact decode_encode_append (decodeHead_encode hwf hne rest) ((bytesSeen_of_ne hne).trans_le (Nat.le_add_right _ _))

end Sys2Proof.Machine
end

section
/-! PROOFS. The other statements of 30_encoding.md: the words of the spec, the no-op encodings, steps that never stop, and the jumps. -/

namespace Sys2Proof.Machine

/-! ### The no-op encodings -/

theorem isUnmappedEd_iff (op : Byte) : isUnmappedEd op = true ↔
    op ≤ 0x3F ∨ op = 0x77 ∨ op = 0x7F ∨ (0x80 ≤ op ∧ op ≤ 0x9F) ∨ (0xA4 ≤ op ∧ op ≤ 0xA7) ∨ (0xAC ≤ op ∧ op ≤ 0xAF) ∨
      (0xB4 ≤ op ∧ op ≤ 0xB7) ∨ 0xBC ≤ op := by
  simp only [isUnmappedEd, Bool.or_eq_true, Bool.and_eq_true, decide_eq_true_eq, beq_iff_eq, or_assoc]

/-- An unmapped ED byte is one of R117's list, since what the decoder reads is well formed; and each of the list is read so. -/
theorem decodeBytes_eq_unmappedEd_iff (op b2 b3 : Byte) : decodeBytes 0xED op b2 b3 = .unmappedEd op ↔ isUnmappedEd op = true := by
  refine ⟨fun h => ?_, fun h => decodeEd_of_isUnmappedEd h b2 b3⟩
  obtain ⟨hwf, -⟩ := decodeBytes_reads 0xED op b2 b3
  rwa [h] at hwf

theorem decodeBytes_idx (ii : Idx) (b1 b2 b3 : Byte) : decodeBytes ii.byte b1 b2 b3 = decodeIdx ii b1 b2 b3 :=
  decodeHead_idx ii b1 [b2, b3]

/-- Settles O4: both lists are those the decoder's tables follow, and their sizes are counted. -/
theorem noOpEncodings : Obligations.NoOpEncodings := by
  refine ⟨⟨fun op b2 b3 => (decodeBytes_eq_unmappedEd_iff op b2 b3).trans (isUnmappedEd_iff op), ?_⟩, fun ii b1 b2 b3 => ?_, ?_⟩
  · rfl
  · rw [decodeBytes_idx, decodeIdx_eq_lonePrefix_iff]
  · rfl

/-- Settles O1: each word is computed. -/
theorem specWordsDecode : Obligations.SpecWordsDecode := by
  refine ⟨?_, ?_, ?_, ?_, ?_, ?_, ?_, ?_, ?_, ?_, ?_, ?_, ?_, ?_, ?_, ?_, ?_, ?_⟩ <;> rfl

/-! ### Steps that never stop -/

/-- Settles O12: a step stops only under `MEM_FAULT = true`, and one that goes on keeps the parameters. -/
theorem stepNeverStops : Obligations.StepNeverStops := by
  intro s h
  obtain hs | ⟨t, e⟩ := step_cases s
  · exact absurd hs (not_stops_of_ok h)
  · obtain ⟨hp, -, -⟩ := step_appends e
    exact ⟨t, e, hp ▸ h⟩

/-! ### Jumps -/

/-- An instruction that ends by paying its cost completes: its frame keeps the parameters, so the cost is that of the default table. -/
theorem Completes.of_retire {i : Instr} {bs : List Byte} {s t : State} {n : Nat} {w : Touch} {post : State → Prop} {taken : Bool}
    (hexec : exec i s = retire i taken t) (hbytes : encode i = bs) (hcost : cost [] i taken = n) (hcycles : t.cycles = s.cycles)
    (hparams : t.params = s.params) (hframe : s.sameBut w t) (hpost : ∀ m, post (t.spend m)) : Completes i bs s n w post :=
  ⟨hbytes, _, hexec, hpost _, hframe.spend _, State.retired_cycles hcycles hparams hcost⟩

theorem Flags.toByte_bits (f : Flags) :
    f.toByte.getLsbD 7 = f.s ∧ f.toByte.getLsbD 6 = f.z ∧ f.toByte.getLsbD 2 = f.pv ∧ f.toByte.getLsbD 0 = f.c :=
  have h := f.ofByte_toByte
  ⟨congrArg Flags.s h, congrArg Flags.z h, congrArg Flags.pv h, congrArg Flags.c h⟩

theorem add_sext16 (pc : Word) (e : Byte) : pc + sext16 e = BitVec.ofInt 16 ((pc.toNat : Int) + e.toInt) := by
  have h := sext16_toNat e
  apply BitVec.eq_of_toNat_eq
  rw [BitVec.toNat_add, BitVec.toNat_ofInt]
  omega

/-- An instruction that only jumps. -/
theorem Completes.of_jump {i : Instr} {bs : List Byte} {s : State} {n : Nat} {a b : Word} {taken : Bool}
    (hexec : exec i s = retire i taken (s.jump a)) (hbytes : encode i = bs) (hcost : cost [] i taken = n) (ha : a = b) :
    Completes i bs s n { pc := true } fun t => t.pc = b :=
  .of_retire hexec hbytes hcost rfl rfl ((State.sameBut.refl _ s).jump a rfl) fun _ => ha

/-- An instruction that jumps when `c` holds, at one cost, and goes on otherwise, at another. -/
theorem Completes.of_branch {i : Instr} {bs : List Byte} {s : State} {n m : Nat} {a b : Word} {c : Bool}
    (hexec : exec i s = if c then retire i true (s.jump a) else retire i false s) (hbytes : encode i = bs)
    (htaken : cost [] i true = n) (hnot : cost [] i false = m) (ha : a = b) :
    Completes i bs s (if c then n else m) { pc := true } fun t => t.pc = if c then b else s.pc := by
  cases c
  · exact .of_retire hexec hbytes hnot rfl rfl (.refl _ s) fun _ => rfl
  · exact .of_jump hexec hbytes htaken ha

theorem sub_one_bne_zero (b : Byte) : (b - 1 != 0) = (b != 1) := by
  rw [Bool.eq_iff_iff, bne_iff_ne, bne_iff_ne, sub_ne_zero]

theorem djnzE_completes (s : State) (e : Byte) {a : Word} (ha : s.pc + sext16 e = a) :
    Completes (.djnzE e) [0x10, e] s (if s.b != 1 then 13 else 8) { regs := [.b], pc := true } fun t =>
      t.b = s.b - 1 ∧ t.pc = if s.b != 1 then a else s.pc := by
  have hexec : exec (.djnzE e) s = if s.b - 1 != 0 then retire (.djnzE e) true ((s.set8 .b (s.b - 1)).jumpRel e)
      else retire (.djnzE e) false (s.set8 .b (s.b - 1)) := rfl
  have hframe : s.sameBut { regs := [.b], pc := true } (s.set8 .b (s.b - 1)) := (State.sameBut.refl _ s).set8 .b _ (by decide)
  rw [sub_one_bne_zero] at hexec
  cases hb : s.b != 1 <;> rw [hb] at hexec
  · exact .of_retire hexec rfl rfl rfl rfl hframe fun _ => ⟨rfl, rfl⟩
  · exact .of_retire hexec rfl rfl rfl rfl (hframe.jumpRel e rfl) fun _ => ⟨rfl, ha⟩

/-- Settles O48: each jump is its update and its cost, a relative target a sum modulo 2^16. -/
theorem jumps : Obligations.Jumps := by
  refine ⟨fun s => ?_, fun s => ?_⟩
  · obtain ⟨hs, hz, hpv, hc⟩ := s.f.toByte_bits
    rw [hs, hz, hpv, hc]
    simp [State.cond, Flags.holds]
  · refine ⟨fun nn => .of_jump rfl rfl rfl rfl, fun cc nn => ?_, .of_jump rfl rfl rfl rfl, fun ii => .of_jump rfl rfl rfl rfl,
      fun e => .of_jump rfl rfl rfl (add_sext16 _ e), fun cc e _ => ?_, fun e => ?_⟩
    · have h : Completes (.jpCcNn cc nn) _ s (if s.cond cc then 10 else 10) { pc := true } fun t =>
          t.pc = if s.cond cc then nn else s.pc := .of_branch rfl rfl rfl rfl rfl
      rwa [ite_self] at h
    · exact .of_branch rfl rfl rfl rfl (add_sext16 _ e)
    · exact djnzE_completes s e (add_sext16 _ e)

end Sys2Proof.Machine
end

section
/-! PROOFS. The eight rotates and shifts in their four forms (45_rotate_bit.md R325 to R333). -/

namespace Sys2Proof.Machine

open Claims

/-! ### Results and lost bits as numbers -/

theorem parity_eq_evenOnes (v : Byte) : parity v = evenOnes v := by
  revert v; decide

theorem getLsbD_seven (v : Byte) : v.getLsbD 7 = (v.toNat / 128 == 1) := by
  revert v; decide

theorem getLsbD_zero (v : Byte) : v.getLsbD 0 = (v.toNat % 2 == 1) := by
  revert v; decide

theorem shiftLeft_or_bit0 (v : Byte) (b : Bool) : v <<< 1 ||| bit0 b = BitVec.ofNat 8 (v.toNat * 2 % 256 + b.toNat) := by
  revert v b; decide

theorem shiftRight_or_bit7 (v : Byte) (b : Bool) : v >>> 1 ||| bit7 b = BitVec.ofNat 8 (v.toNat / 2 + 128 * b.toNat) := by
  revert v b; decide

theorem toNat_getLsbD_seven (v : Byte) : (v.getLsbD 7).toNat = v.toNat / 128 := by
  revert v; decide

theorem toNat_getLsbD_zero (v : Byte) : (v.getLsbD 0).toNat = v.toNat % 2 := by
  revert v; decide

theorem and_0x80_eq_bit7 (v : Byte) : v &&& 0x80 = bit7 (v.getLsbD 7) := by
  revert v; decide

/-! ### The flags, the three shapes of an operand, and the four forms -/

theorem State.writeFlags_xyOf (s : State) (g : Flags) (v : Byte) : xyOf s (s.writeFlags g (.ofByte v)) v := by
  refine ⟨fun hm => ?_, fun hm => ?_⟩ <;>
    simp only [State.writeFlags_f_y, State.writeFlags_f_x, hm, XySource.ofByte, xyValue, and_self]

/-- The flags after a rotate or shift of the byte `v` (40_step_and_microops.md R147). -/
def rotEffect (op : RotOp) (s : State) (v : Byte) (t : State) : Prop :=
  flagsAre t (rot op v s.f.c).msb (rot op v s.f.c == 0) false (evenOnes (rot op v s.f.c)) false (rotLost op v) ∧
    xyOf s t (rot op v s.f.c)

theorem State.rotFlags_rotEffect (s : State) (op : RotOp) (v : Byte) : rotEffect op s v (s.rotFlags op v) :=
  ⟨⟨rfl, rfl, rfl, parity_eq_evenOnes _, rfl, rfl⟩, s.writeFlags_xyOf _ _⟩

theorem rotEffect.of_flags {op : RotOp} {s t u : State} {v : Byte} (h : rotEffect op s v t) (hf : u.f = t.f) : rotEffect op s v u := by
  simpa only [rotEffect, flagsAre, xyOf, xyRule, hf] using h

theorem State.sameBut.rotFlags {w : Touch} {s t : State} (h : s.sameBut w t) (op : RotOp) (v : Byte) (hw : w.flags = true) :
    s.sameBut w (t.rotFlags op v) :=
  h.writeFlags _ _ hw

section
variable {op : RotOp} {i : Instr} {bs : List Byte} {s : State} {n : Nat} {a : Word} {r : Reg8}

theorem Completes.of_rotReg
    (hexec : exec i s = retire i false ((s.rotFlags op (s.get8 r)).set8 r (rot op (s.get8 r) s.f.c)))
    (hbytes : encode i = bs) (hcost : cost [] i false = n) :
    Completes i bs s n { regs := [r], flags := true } fun t => t.get8 r = rot op (s.get8 r) s.f.c ∧ rotEffect op s (s.get8 r) t :=
  .of_retire hexec hbytes hcost (State.set8_cycles _ _ _) (State.set8_params _ _ _)
    (((State.sameBut.refl _ s).rotFlags op _ rfl).set8 r _ (List.mem_singleton_self r)) fun _ =>
    ⟨by simp, (s.rotFlags_rotEffect op _).of_flags (State.set8_f _ _ _)⟩

theorem Completes.of_rotMem (h : s.params.memFault = false)
    (hexec : exec i s = rotMem op a s fun _ s => retire i false s) (hbytes : encode i = bs) (hcost : cost [] i false = n) :
    Completes i bs s n { flags := true, bytes := [a] } fun t => t.peek a = rot op (s.peek a) s.f.c ∧ rotEffect op s (s.peek a) t :=
  .of_retire (hexec.trans (rotMem_ok h)) hbytes hcost rfl rfl
    (((State.sameBut.refl _ s).rotFlags op _ rfl).poke a _ (List.mem_singleton_self a)) fun _ =>
    ⟨State.peek_poke_same _ _ _, (s.rotFlags_rotEffect op _).of_flags rfl⟩

theorem Completes.of_rotMemReg (h : s.params.memFault = false)
    (hexec : exec i s = rotMem op a s fun v s => retire i false (s.set8 r v)) (hbytes : encode i = bs)
    (hcost : cost [] i false = n) :
    Completes i bs s n { regs := [r], flags := true, bytes := [a] } fun t =>
      t.peek a = rot op (s.peek a) s.f.c ∧ t.get8 r = rot op (s.peek a) s.f.c ∧ rotEffect op s (s.peek a) t :=
  .of_retire (hexec.trans (rotMem_ok h)) hbytes hcost (State.set8_cycles _ _ _) (State.set8_params _ _ _)
    ((((State.sameBut.refl _ s).rotFlags op _ rfl).poke a _ (List.mem_singleton_self a)).set8 r _ (List.mem_singleton_self r)) fun _ =>
    ⟨by simp, by simp, (s.rotFlags_rotEffect op _).of_flags (State.set8_f _ _ _)⟩

end

/-! ### The instructions of each operation (30_encoding.md R101) -/

namespace RotOp

/-- The code of an operation in `rot[y]`. -/
def code : RotOp → BitVec 3
  | rlc => 0 | rrc => 1 | rl => 2 | rr => 3 | sla => 4 | sra => 5 | sll => 6 | srl => 7

/-- The operation on a register. -/
def onReg : RotOp → Reg8 → Instr
  | rlc => .rlcR | rrc => .rrcR | rl => .rlR | rr => .rrR | sla => .slaR | sra => .sraR | sll => .sllR | srl => .srlR

/-- The operation on the byte at HL. -/
def onHl : RotOp → Instr
  | rlc => .rlcMemHl | rrc => .rrcMemHl | rl => .rlMemHl | rr => .rrMemHl | sla => .slaMemHl | sra => .sraMemHl | sll => .sllMemHl
  | srl => .srlMemHl

/-- The operation on the byte at an index register and a displacement. -/
def onIid : RotOp → Idx → Byte → Instr
  | rlc => .rlcMemIid | rrc => .rrcMemIid | rl => .rlMemIid | rr => .rrMemIid | sla => .slaMemIid | sra => .sraMemIid
  | sll => .sllMemIid | srl => .srlMemIid

/-- The same with a register that takes a copy of the result. -/
def onIidReg : RotOp → Idx → Byte → Reg8 → Instr
  | rlc => .rlcMemIidR | rrc => .rrcMemIidR | rl => .rlMemIidR | rr => .rrMemIidR | sla => .slaMemIidR | sra => .sraMemIidR
  | sll => .sllMemIidR | srl => .srlMemIidR

theorem exec_onReg (op : RotOp) (r : Reg8) (s : State) :
    exec (op.onReg r) s = retire (op.onReg r) false ((s.rotFlags op (s.get8 r)).set8 r (rot op (s.get8 r) s.f.c)) := by
  cases op <;> rfl

theorem exec_onHl (op : RotOp) (s : State) : exec op.onHl s = rotMem op s.hl s fun _ s => retire op.onHl false s := by
  cases op <;> rfl

theorem exec_onIid (op : RotOp) (ii : Idx) (d : Byte) (s : State) :
    exec (op.onIid ii d) s = rotMem op (s.ea ii d) s fun _ s => retire (op.onIid ii d) false s := by
  cases op <;> rfl

theorem exec_onIidReg (op : RotOp) (ii : Idx) (d : Byte) (r : Reg8) (s : State) :
    exec (op.onIidReg ii d r) s = rotMem op (s.ea ii d) s fun v s => retire (op.onIidReg ii d r) false (s.set8 r v) := by
  cases op <;> rfl

theorem encode_onReg (op : RotOp) (r : Reg8) : encode (op.onReg r) = [0xCB, opByte 0 op.code r.code] := by
  cases op <;> rfl

theorem encode_onHl (op : RotOp) : encode op.onHl = [0xCB, opByte 0 op.code 6] := by
  cases op <;> rfl

theorem encode_onIid (op : RotOp) (ii : Idx) (d : Byte) : encode (op.onIid ii d) = [ii.byte, 0xCB, d, opByte 0 op.code 6] := by
  cases op <;> rfl

theorem encode_onIidReg (op : RotOp) (ii : Idx) (d : Byte) (r : Reg8) :
    encode (op.onIidReg ii d r) = [ii.byte, 0xCB, d, opByte 0 op.code r.code] := by
  cases op <;> rfl

theorem cost_onReg (op : RotOp) (r : Reg8) : cost [] (op.onReg r) false = 8 := by cases op <;> rfl
theorem cost_onHl (op : RotOp) : cost [] op.onHl false = 15 := by cases op <;> rfl
theorem cost_onIid (op : RotOp) (ii : Idx) (d : Byte) : cost [] (op.onIid ii d) false = 23 := by cases op <;> rfl
theorem cost_onIidReg (op : RotOp) (ii : Idx) (d : Byte) (r : Reg8) : cost [] (op.onIidReg ii d r) false = 23 := by cases op <;> rfl

/-- The four forms of an operation do what `rot` and `rotLost` say, under any other name `res` and `lost` of these. -/
theorem fourForms (op : RotOp) {res : Byte → Bool → Byte} {lost : Byte → Bool} (hres : ∀ v c, rot op v c = res v c)
    (hlost : ∀ v, rotLost op v = lost v) : fourForms op.code op.onReg op.onHl op.onIid op.onIidReg res lost := by
  obtain rfl : rot op = res := funext₂ hres
  obtain rfl : rotLost op = lost := funext hlost
  intro s
  exact ⟨fun r => .of_rotReg (op.exec_onReg r s) (op.encode_onReg r) (op.cost_onReg r),
    fun h => ⟨.of_rotMem h (op.exec_onHl s) op.encode_onHl op.cost_onHl, fun ii d =>
      ⟨.of_rotMem h (op.exec_onIid ii d s) (op.encode_onIid ii d) (op.cost_onIid ii d), fun r =>
        .of_rotMemReg h (op.exec_onIidReg ii d r s) (op.encode_onIidReg ii d r) (op.cost_onIidReg ii d r)⟩⟩⟩

end RotOp

/-- Settles O44: every form is that of `RotOp.fourForms`; what is left is each result and each lost bit as a number. -/
theorem rotatesAndShifts : Obligations.RotatesAndShifts := by
  refine ⟨RotOp.fourForms .rlc (fun v _ => ?_) getLsbD_seven, RotOp.fourForms .rrc (fun v _ => ?_) getLsbD_zero,
    RotOp.fourForms .rl shiftLeft_or_bit0 getLsbD_seven, RotOp.fourForms .rr shiftRight_or_bit7 getLsbD_zero,
    RotOp.fourForms .sla (fun v _ => ?_) getLsbD_seven, RotOp.fourForms .sra (fun v _ => ?_) getLsbD_zero,
    RotOp.fourForms .sll (fun v _ => ?_) getLsbD_seven, RotOp.fourForms .srl (fun v _ => ?_) getLsbD_zero⟩
  · rw [rot, shiftLeft_or_bit0, toNat_getLsbD_seven]
  · rw [rot, shiftRight_or_bit7, toNat_getLsbD_zero]
  · exact (BitVec.or_zero).symm.trans (shiftLeft_or_bit0 v false)
  · rw [rot, and_0x80_eq_bit7, shiftRight_or_bit7, toNat_getLsbD_seven]
  · exact shiftLeft_or_bit0 v true
  · exact (BitVec.or_zero).symm.trans (shiftRight_or_bit7 v false)

end Sys2Proof.Machine
end

section
/-! PROOFS. The other statements of 40_step_and_microops.md: the step, running and halted, the stack, and signed overflow. -/

namespace Sys2Proof.Machine

open Claims

/-! ### The running step -/

/-- Four bytes are always enough to decode. -/
theorem decodeBytes_of_decode {b0 b1 b2 b3 : Byte} {i : Instr} {rest : List Byte} (h : decode [b0, b1, b2, b3] = .ok (i, rest)) :
    decodeBytes b0 b1 b2 b3 = i := by
  simp only [decode, List.getD_cons_zero, List.getD_cons_succ] at h
  split at h
  · cases h; rfl
  · cases h

/-- Settles O9: the fetch of a running step reads what `decode` reads and, when no access fails, leaves `State.advance` of it. -/
theorem stepRunsDecoded : Obligations.StepRunsDecoded := by
  intro s i rest hrun hmem hdecode
  have hi : s.fetched = i := decodeBytes_of_decode hdecode
  have hfetch : step s = andThen (exec s.fetched (s.unblocked.advance s.fetched)) (interruptCheck false) :=
    (step_running s hrun).trans (fetch_ok (s := s.unblocked) hmem)
  rw [hfetch, hi]
  rfl

/-! ### The interrupt check, condition by condition (60_exceptions.md R434) -/

theorem State.not_intAccepted {s : State} (h : (s.iff1 && s.intPending) = false) : s.intAccepted = false := by
  rw [State.intAccepted, h, Bool.false_and]

section
variable {s : State} (hblock : s.intBlock = .none)
include hblock

theorem State.intAccepted_of_unblocked (hiff : s.iff1 = true) (hint : s.intPending = true) : s.intAccepted = true := by
  simp [State.intAccepted, hblock, hiff, hint]

theorem interruptCheck_idle (hnmi : s.nmiPending = false) (hint : (s.iff1 && s.intPending) = false) :
    interruptCheck true s = .next (s.spend (haltCost s.params.costs)) := by
  simp [interruptCheck, hblock, hnmi, State.not_intAccepted hint]

theorem State.checked_of_nmi (wasHalted : Bool) (hnmi : s.nmiPending = true) : s.checked wasHalted = s.nmiTaken := by
  simp [State.checked, hblock, hnmi]

theorem State.checked_of_int (wasHalted : Bool) (hnmi : s.nmiPending = false) (hiff : s.iff1 = true) (hint : s.intPending = true) :
    s.checked wasHalted = s.intAccept := by
  simp [State.checked, hblock, hnmi, State.intAccepted_of_unblocked hblock hiff hint]

end

theorem State.intAccept_fixed {s : State} (him : s.im = 0 ∨ s.im = 1) : s.intAccept = s.intTaken 0x0038 (mode1Cost s.params.costs) := by
  obtain him | him := him <;> rw [State.intAccept, him] <;> rfl

/-- A state with the memory of a push holds the pushed word where the push put it. -/
theorem holdsWord_of_pushed {s t : State} {v : Word} (hmem : t.mem = (s.pushed v).mem) : holdsWord t (s.sp - 2) v := by
  obtain ⟨hlo, hhi⟩ : holdsWord (s.pushed v) (s.sp - 2) v := State.holdsWord_pokeWord _ _ _
  exact ⟨(State.peek_of_mem hmem _).trans hlo, (State.peek_of_mem hmem _).trans hhi⟩

/-- What a dispatched acceptance leaves: a running core at the target, PC pushed, R kept, the cost added (60_exceptions.md R439, R442). -/
def Dispatched (s t : State) (target : Word) (price : Nat) : Prop :=
  t.halted = false ∧ t.pc = target ∧ holdsWord t t.sp s.pc ∧ t.sp = s.sp - 2 ∧ t.r = s.r ∧ t.cycles = s.cycles + BitVec.ofNat 64 price

theorem State.nmiTaken_dispatched (s : State) : Dispatched s s.nmiTaken 0x0066 (nmiCost s.params.costs) := by
  have hword : holdsWord s.nmiTaken (s.sp - 2) s.pc := holdsWord_of_pushed rfl
  refine ⟨?_, rfl, hword, rfl, ?_, ?_⟩ <;> simp [State.nmiTaken]

theorem State.intTaken_dispatched (s : State) (a : Word) (price : Nat) : Dispatched s (s.intTaken a price) a price := by
  have hword : holdsWord (s.intTaken a price) (s.sp - 2) s.pc := holdsWord_of_pushed rfl
  refine ⟨?_, rfl, hword, rfl, ?_, ?_⟩ <;> simp [State.intTaken, State.intEntered]

/-- Settles O10: a halted step is the check alone, whose first condition cannot hold, since the step cleared the latch. -/
theorem haltedStep : Obligations.HaltedStep := by
  intro s hs
  have hblock : s.unblocked.intBlock = .none := rfl
  have hstep : step s = interruptCheck true s.unblocked := step_halted s hs
  have hcheck (h : s.params.memFault = false) : step s = .next (s.unblocked.checked true) := hstep.trans (interruptCheck_ok true h)
  refine ⟨fun hnmi hint => ?_, fun hmem hnmi => ?_, fun hmem hnmi hiff hint him => ?_⟩
  · exact ⟨hstep.trans (interruptCheck_idle hblock hnmi hint), fun hc => by rw [hc]; rfl⟩
  · rw [hcheck hmem, State.checked_of_nmi hblock true hnmi]
    obtain ⟨hrun, hpc, hword, hsp, hr, hcost⟩ := s.unblocked.nmiTaken_dispatched
    exact ⟨_, rfl, hrun, hpc, hword, hsp, hr, hcost, fun hc => by rw [hc]; rfl⟩
  · rw [hcheck hmem, State.checked_of_int hblock true hnmi hiff hint, State.intAccept_fixed (s := s.unblocked) him]
    obtain ⟨hrun, hpc, hword, hsp, hr, hcost⟩ := s.unblocked.intTaken_dispatched 0x0038 (mode1Cost s.params.costs)
    exact ⟨_, rfl, hrun, hpc, hword, hsp, hr, hcost, fun hc => by rw [hc]; rfl⟩

/-! ### The stack (R145, R146) -/

@[simp] theorem State.getQQ_setQQ_same (s : State) (q : StackPair) (v : Word) : (s.setQQ q v).getQQ q = v := by
  cases q <;> simp [State.getQQ, State.setQQ, State.bc, State.de, State.hl]

theorem State.spend_getQQ (s : State) (n : Nat) (q : StackPair) : (s.spend n).getQQ q = s.getQQ q := by
  cases q <;> rfl

theorem State.peekWord_of_mem {s t : State} (h : t.mem = s.mem) (a : Word) : t.peekWord a = s.peekWord a := by
  rw [State.peekWord, State.peekWord, State.peek_of_mem h, State.peek_of_mem h]

/-- A pop from the stack pointer and the memory a push left gets the value pushed and the old stack pointer. -/
theorem exec_pop_of_pushed {i : Instr} {s t : State} {v : Word} {g : Word → State → State}
    (hexec : exec i t = pop16 t fun v s => retire i false (g v s)) (hsp : t.sp = (s.pushed v).sp) (hmem : t.mem = (s.pushed v).mem)
    (h : t.params.memFault = false) : ∃ n, exec i t = .next ((g v { t with sp := s.sp }).spend n) := by
  have hword : t.peekWord t.sp = v := by rw [hsp, State.peekWord_of_mem hmem, State.peekWord_pushed]
  have hback : t.sp + 2 = s.sp := by rw [hsp, State.pushed_sp, BitVec.sub_add_cancel]
  rw [hexec, pop16_ok h, hword, State.popped, hback]
  exact ⟨_, rfl⟩

/-- The same for the pops of `rp2`, POP AF being one of them. -/
theorem exec_popQq_of_pushed {i : Instr} {s t : State} {v : Word} {q : StackPair}
    (hexec : exec i t = pop16 t fun v s => retire i false (s.setQQ q v)) (hsp : t.sp = (s.pushed v).sp)
    (hmem : t.mem = (s.pushed v).mem) (h : t.params.memFault = false) :
    ∃ u, exec i t = .next u ∧ u.getQQ q = v ∧ u.sp = s.sp := by
  obtain ⟨n, e⟩ := exec_pop_of_pushed hexec hsp hmem h
  exact ⟨_, e, by rw [State.spend_getQQ, State.getQQ_setQQ_same], State.setQQ_sp _ _ _⟩

/-- Settles O28: each instruction of a round trip is one push or one pop, and `exec_pop_of_pushed` joins them. -/
theorem stackRoundTrips : Obligations.StackRoundTrips := by
  intro s h
  refine ⟨fun p => ⟨_, push16_ok h, fun t hsp hmem hf => ?_⟩,
    fun ii jj => ⟨_, push16_ok h, fun t hsp hmem hf => ?_⟩, fun i hi => ?_⟩
  · exact ⟨fun q _ => exec_popQq_of_pushed rfl hsp hmem hf, exec_popQq_of_pushed rfl hsp hmem hf⟩
  · obtain ⟨n, e⟩ := exec_pop_of_pushed (i := .popIi jj) (g := fun v s => s.setIdx jj v) rfl hsp hmem hf
    exact ⟨_, e, (State.spend_idx _ _ _).trans (State.idx_setIdx_same _ _ _), State.setIdx_sp _ _ _⟩
  · have hcall : ∃ a, exec i s = retire i false ((s.pushed s.pc).jump a) := by
      obtain ⟨nn, rfl⟩ | ⟨y, rfl⟩ := hi
      · exact ⟨nn, callTo_ok h⟩
      · exact ⟨restartAddress y, callTo_ok h⟩
    obtain ⟨a, hcall⟩ := hcall
    refine ⟨_, hcall, fun t hsp hmem hf => ?_⟩
    obtain ⟨n, e⟩ := exec_pop_of_pushed (i := .ret) (g := fun v s => s.jump v) rfl hsp hmem hf
    exact ⟨_, e, rfl, rfl⟩

/-! ### Signed overflow (10_state.md R24) -/

/-- The sum of two words and a carry leaves the signed range exactly when both have one sign and the result has the other. -/
theorem msb_add_overflow_iff {w : Nat} (a b : BitVec (w + 1)) (c : Bool) {r : BitVec (w + 1)}
    (hr : r = BitVec.ofNat (w + 1) (a.toNat + b.toNat + c.toNat)) :
    ((a ^^^ r) &&& (b ^^^ r)).msb = true ↔
      a.toInt + b.toInt + c.toNat < -(2 ^ w : Nat) ∨ (2 ^ w : Nat) ≤ a.toInt + b.toInt + c.toNat := by
  have ha := a.isLt
  have hb := b.isLt
  have hc := c.toNat_le
  have hsum : r.toNat = a.toNat + b.toNat + c.toNat ∨ r.toNat + 2 ^ (w + 1) = a.toNat + b.toNat + c.toNat := by
    have hlt := r.isLt
    rw [hr, BitVec.toNat_ofNat] at hlt ⊢
    rcases Nat.lt_or_ge (a.toNat + b.toNat + c.toNat) (2 ^ (w + 1)) with h | h
    · exact .inl (Nat.mod_eq_of_lt h)
    · rw [Nat.mod_eq_sub_mod h, Nat.mod_eq_of_lt] <;> omega
  have hlt := r.isLt
  simp only [BitVec.msb_and, BitVec.msb_xor, Bool.and_eq_true, bne_iff_ne, Ne, BitVec.toInt_eq_msb_cond]
  simp only [BitVec.msb_eq_decide, Nat.add_sub_cancel, decide_eq_true_eq, decide_eq_decide, Nat.pow_succ] at *
  generalize 2 ^ w = m at *
  omega

theorem toInt_not_eq {w : Nat} (b : BitVec (w + 1)) : (~~~b).toInt = -b.toInt - 1 := by
  have hb := b.isLt
  rw [BitVec.toInt_eq_toNat_cond, BitVec.toInt_eq_toNat_cond, BitVec.toNat_not]
  rw [Nat.pow_succ] at *
  generalize 2 ^ w = m at *
  split <;> split <;> omega

theorem toNat_not_add_toNat (c : Bool) : (!c).toNat + c.toNat = 1 := by cases c <;> rfl

/-- A subtraction with a borrow is the addition of the complement with the opposite carry. -/
theorem ofInt_sub_eq_ofNat_add_not {w : Nat} (a b : BitVec w) (c : Bool) :
    BitVec.ofInt w ((a.toNat : Int) - b.toNat - c.toNat) = BitVec.ofNat w (a.toNat + (~~~b).toNat + (!c).toNat) := by
  have hturn : (a.toNat : Int) - b.toNat - c.toNat + (2 ^ w : Nat) = (a.toNat + (~~~b).toNat + (!c).toNat : Nat) := by
    have hb := b.isLt
    have hc := toNat_not_add_toNat c
    rw [BitVec.toNat_not]
    omega
  apply BitVec.eq_of_toNat_eq
  rw [BitVec.toNat_ofInt, BitVec.toNat_ofNat, ← Int.add_emod_right, hturn]
  rfl

/-- The same for a difference and a borrow, by `msb_add_overflow_iff` on the complement. -/
theorem msb_sub_overflow_iff {w : Nat} (a b : BitVec (w + 1)) (c : Bool) {r : BitVec (w + 1)}
    (hr : r = BitVec.ofInt (w + 1) ((a.toNat : Int) - b.toNat - c.toNat)) :
    ((a ^^^ b) &&& (a ^^^ r)).msb = true ↔
      a.toInt - b.toInt - c.toNat < -(2 ^ w : Nat) ∨ (2 ^ w : Nat) ≤ a.toInt - b.toInt - c.toNat := by
  have hbits : ((a ^^^ b) &&& (a ^^^ r)).msb = ((a ^^^ r) &&& (~~~b ^^^ r)).msb := by
    simp only [BitVec.msb_and, BitVec.msb_xor, BitVec.msb_not]
    cases a.msb <;> cases b.msb <;> cases r.msb <;> simp
  have hadd := msb_add_overflow_iff a (~~~b) (!c) (hr.trans (ofInt_sub_eq_ofNat_add_not a b c))
  have hb := toInt_not_eq b
  have hc := toNat_not_add_toNat c
  rw [hbits, hadd]
  omega

/-- Settles O37: both widths by one fact about sums and one about differences. -/
theorem overflowIsSigned : Obligations.OverflowIsSigned := by
  refine ⟨fun f a b c => ⟨?_, ?_⟩, fun f a b c => ⟨?_, ?_⟩⟩
  · exact msb_add_overflow_iff a b c rfl
  · exact msb_sub_overflow_iff a b c rfl
  · exact msb_add_overflow_iff a b c rfl
  · exact msb_sub_overflow_iff a b c rfl

end Sys2Proof.Machine
end

section
/-! PROOFS. The statements of 41_load.md: one lemma for each way a load or a stack instruction writes the state, at every operand and
encoding that has it.  An instruction's bytes, cost and meaning are then what `rfl` computes. -/

namespace Sys2Proof.Machine

open Claims

@[simp] theorem State.spend_idxHi (s : State) (n : Nat) (ii : Idx) : (s.spend n).idxHi ii = s.idxHi ii :=
  congrArg hiByte (s.spend_idx n ii)

@[simp] theorem State.spend_idxLo (s : State) (n : Nat) (ii : Idx) : (s.spend n).idxLo ii = s.idxLo ii :=
  congrArg loByte (s.spend_idx n ii)

theorem mem_wordBytes (a : Word) : a ∈ wordBytes a := List.mem_cons_self

theorem succ_mem_wordBytes (a : Word) : a + 1 ∈ wordBytes a := List.mem_cons_of_mem _ (List.mem_singleton_self _)

/-- The registers and flags a pop of `rp2` writes, and SP. -/
def popTouch : StackPair → Touch
  | .bc => { regs := [.b, .c], sp := true }
  | .de => { regs := [.d, .e], sp := true }
  | .hl => { regs := [.h, .l], sp := true }
  | .af => { regs := [.a], sp := true, flags := true }

theorem State.sameBut_popped_setQQ (s : State) (q : StackPair) (v : Word) : s.sameBut (popTouch q) (s.popped.setQQ q v) := by
  have hpop : s.sameBut (popTouch q) s.popped := (State.sameBut.refl _ s).popped (by cases q <;> rfl)
  cases q <;> exact hpop.setQQ _ v (fun _ => id) (by decide)

theorem Completes.imp {i : Instr} {bs : List Byte} {s : State} {n : Nat} {w : Touch} {p q : State → Prop}
    (h : Completes i bs s n w p) (hpq : ∀ t, p t → q t) : Completes i bs s n w q := by
  obtain ⟨hbytes, t, hexec, hpost, hrest⟩ := h
  exact ⟨hbytes, t, hexec, hpq t hpost, hrest⟩

section Forms

variable {i : Instr} {bs : List Byte} {s : State} {n : Nat} (h : s.params.memFault = false)
  (hbytes : encode i = bs := by rfl) (hcost : cost [] i false = n := by rfl)
include hbytes hcost

/-! ### Forms that touch no memory -/

theorem Completes.of_set8 {r : Reg8} {v : Byte} (hexec : exec i s = retire i false (s.set8 r v) := by rfl) :
    Completes i bs s n { regs := [r] } fun t => t.get8 r = v :=
  .of_retire hexec hbytes hcost (s.set8_cycles r v) (s.set8_params r v)
    ((State.sameBut.refl _ s).set8 r v (List.mem_singleton_self r)) fun _ => by simp

theorem Completes.of_set16 {p : Pair} {v : Word} (hexec : exec i s = retire i false (s.set16 p v) := by rfl) :
    Completes i bs s n (pairTouch p) fun t => t.get16 p = v :=
  .of_retire hexec hbytes hcost (s.set16_cycles p v) (s.set16_params p v)
    ((State.sameBut.refl _ s).set16 p v (fun _ => id) id) fun _ => by simp

theorem Completes.of_setIdx {ii : Idx} {v : Word} (hexec : exec i s = retire i false (s.setIdx ii v) := by rfl) :
    Completes i bs s n { idx := [ii] } fun t => t.idx ii = v :=
  .of_retire hexec hbytes hcost (s.setIdx_cycles ii v) (s.setIdx_params ii v)
    ((State.sameBut.refl _ s).setIdx ii v (List.mem_singleton_self ii)) fun _ => by simp

theorem Completes.of_setIdxHi {ii : Idx} {v : Byte} (hexec : exec i s = retire i false (s.setIdxHi ii v) := by rfl) :
    Completes i bs s n { idx := [ii] } (hiBecomes ii v s) :=
  .of_retire hexec hbytes hcost (s.setIdx_cycles ii _) (s.setIdx_params ii _)
    ((State.sameBut.refl _ s).setIdxHi ii v (List.mem_singleton_self ii)) fun _ => by simp [hiBecomes]

theorem Completes.of_setIdxLo {ii : Idx} {v : Byte} (hexec : exec i s = retire i false (s.setIdxLo ii v) := by rfl) :
    Completes i bs s n { idx := [ii] } (loBecomes ii v s) :=
  .of_retire hexec hbytes hcost (s.setIdx_cycles ii _) (s.setIdx_params ii _)
    ((State.sameBut.refl _ s).setIdxLo ii v (List.mem_singleton_self ii)) fun _ => by simp [loBecomes]

/-- A half copied to itself: nothing changes, the index register included (R195). -/
theorem Completes.of_setIdxHi_self {ii : Idx} (hexec : exec i s = retire i false (s.setIdxHi ii (s.idxHi ii)) := by rfl) :
    Completes i bs s n {} (hiBecomes ii (s.idxHi ii) s) := by
  rw [State.setIdxHi_idxHi] at hexec
  exact .of_retire hexec hbytes hcost rfl rfl (.refl _ s) fun m => ⟨s.spend_idxHi m ii, s.spend_idxLo m ii⟩

theorem Completes.of_setIdxLo_self {ii : Idx} (hexec : exec i s = retire i false (s.setIdxLo ii (s.idxLo ii)) := by rfl) :
    Completes i bs s n {} (loBecomes ii (s.idxLo ii) s) := by
  rw [State.setIdxLo_idxLo] at hexec
  exact .of_retire hexec hbytes hcost rfl rfl (.refl _ s) fun m => ⟨s.spend_idxLo m ii, s.spend_idxHi m ii⟩

/-! ### Forms that read or write memory: the access does not fail, and what is left is an update -/

include h

theorem Completes.of_readByte {r : Reg8} {a : Word}
    (hexec : exec i s = readByte a s fun v s => retire i false (s.set8 r v) := by rfl) :
    Completes i bs s n { regs := [r] } fun t => t.get8 r = s.peek a :=
  .of_set8 hbytes hcost (hexec.trans (readByte_ok h))

theorem Completes.of_readWord {p : Pair} {a : Word}
    (hexec : exec i s = readWord a s fun v s => retire i false (s.set16 p v) := by rfl) :
    Completes i bs s n (pairTouch p) fun t => t.get16 p = s.peekWord a :=
  .of_set16 hbytes hcost (hexec.trans (readWord_ok h))

theorem Completes.of_readWordIdx {ii : Idx} {a : Word}
    (hexec : exec i s = readWord a s fun v s => retire i false (s.setIdx ii v) := by rfl) :
    Completes i bs s n { idx := [ii] } fun t => t.idx ii = s.peekWord a :=
  .of_setIdx hbytes hcost (hexec.trans (readWord_ok h))

theorem Completes.of_writeByte {a : Word} {v : Byte} (hexec : exec i s = writeByte a v s fun s => retire i false s := by rfl) :
    Completes i bs s n { bytes := [a] } fun t => t.peek a = v :=
  .of_retire (hexec.trans (writeByte_ok h)) hbytes hcost rfl rfl
    ((State.sameBut.refl _ s).poke a v (List.mem_singleton_self a)) fun _ => s.peek_poke_same a v

theorem Completes.of_writeWord {a v : Word} (hexec : exec i s = writeWord a v s fun s => retire i false s := by rfl) :
    Completes i bs s n { bytes := wordBytes a } fun t => holdsWord t a v :=
  .of_retire (hexec.trans (writeWord_ok h)) hbytes hcost rfl rfl
    ((State.sameBut.refl _ s).pokeWord a v (mem_wordBytes a) (succ_mem_wordBytes a)) fun _ => s.holdsWord_pokeWord a v

/-! ### The stack -/

theorem Completes.of_push16 {v : Word} (hexec : exec i s = push16 v s fun s => retire i false s := by rfl) :
    Completes i bs s n { sp := true, bytes := wordBytes (s.sp - 2) } fun t => t.sp = s.sp - 2 ∧ holdsWord t (s.sp - 2) v :=
  .of_retire (hexec.trans (push16_ok h)) hbytes hcost rfl rfl
    ((State.sameBut.refl _ s).pushed v rfl (mem_wordBytes _) (succ_mem_wordBytes _)) fun _ => ⟨rfl, holdsWord_of_pushed rfl⟩

theorem Completes.of_pop16 {q : StackPair} (hexec : exec i s = pop16 s fun v s => retire i false (s.setQQ q v) := by rfl) :
    Completes i bs s n (popTouch q) fun t => t.sp = s.sp + 2 ∧ t.getQQ q = s.peekWord s.sp :=
  .of_retire (hexec.trans (pop16_ok h)) hbytes hcost (State.setQQ_cycles _ q _) (State.setQQ_params _ q _)
    (s.sameBut_popped_setQQ q _) fun _ => by simp [State.spend_getQQ]

theorem Completes.of_pop16Idx {ii : Idx} (hexec : exec i s = pop16 s fun v s => retire i false (s.setIdx ii v) := by rfl) :
    Completes i bs s n { idx := [ii], sp := true } fun t => t.sp = s.sp + 2 ∧ t.idx ii = s.peekWord s.sp :=
  .of_retire (hexec.trans (pop16_ok h)) hbytes hcost (State.setIdx_cycles _ ii _) (State.setIdx_params _ ii _)
    (((State.sameBut.refl _ s).popped rfl).setIdx ii _ (List.mem_singleton_self ii)) fun _ => by simp

end Forms

/-! ### The statements -/

/-- Settles O22: each form is one write of a register. -/
theorem registerLoads : Obligations.RegisterLoads := fun _ => ⟨fun _ _ => .of_set8, fun _ _ => .of_set8⟩

/-- Settles O23: each form is one read, at the address the old state gives, and one write of a register. -/
theorem loadsFromMemory : Obligations.LoadsFromMemory := fun _ h =>
  ⟨fun _ => .of_readByte h, .of_readByte h, .of_readByte h, fun _ => .of_readByte h, fun _ _ =>
    ⟨.of_readByte h, .of_readByte h, .of_readByte h, .of_readByte h, .of_readByte h, .of_readByte h, .of_readByte h⟩⟩

/-- Settles O24: each form is one write of a byte, at the address the old state gives. -/
theorem byteStores : Obligations.ByteStores := fun _ h =>
  ⟨fun _ => .of_writeByte h, fun _ => .of_writeByte h, .of_writeByte h, .of_writeByte h, fun _ => .of_writeByte h, fun _ _ =>
    ⟨.of_writeByte h, .of_writeByte h, .of_writeByte h, .of_writeByte h, .of_writeByte h, .of_writeByte h, .of_writeByte h,
      fun _ => .of_writeByte h⟩⟩

/-- Settles O25: ten forms write a register, and the others write a half, two of them the half it already is. -/
theorem indexHalfLoads : Obligations.IndexHalfLoads := fun _ _ =>
  ⟨.of_set8, .of_set8, .of_set8, .of_set8, .of_set8, .of_set8, .of_set8, .of_set8, .of_set8, .of_set8,
    .of_setIdxHi, .of_setIdxHi, .of_setIdxHi, .of_setIdxHi, .of_setIdxHi_self, .of_setIdxHi, .of_setIdxHi,
    .of_setIdxLo, .of_setIdxLo, .of_setIdxLo, .of_setIdxLo, .of_setIdxLo, .of_setIdxLo_self, .of_setIdxLo,
    fun _ => ⟨.of_setIdxHi, .of_setIdxLo⟩⟩

/-- Settles O26: each form is one write of a pair, of SP, of an index register or of a word of memory, after at most one read. -/
theorem wordLoadsAndStores : Obligations.WordLoadsAndStores :=
  ⟨fun _ => ⟨fun _ _ => .of_set16, fun _ _ => .of_setIdx, .of_set16 (p := .sp), fun _ => .of_set16 (p := .sp), fun h _ =>
      ⟨.of_readWord h, fun _ => .of_readWord h, fun _ => .of_readWordIdx h⟩⟩,
    fun _ _ h => ⟨.of_writeWord h, fun _ => .of_writeWord h, fun _ => .of_writeWord h⟩⟩

/-- Settles O27: each form is one push or one pop; the word POP AF reads is its two bytes. -/
theorem pushAndPop : Obligations.PushAndPop := by
  intro s h
  have hpopAf : Completes .popAf [0xF1] s 10 (popTouch .af) fun t => t.sp = s.sp + 2 ∧ t.getQQ .af = s.peekWord s.sp := .of_pop16 h
  refine ⟨fun _ => .of_push16 h, fun _ => .of_push16 h, .of_pop16 (q := .bc) h, .of_pop16 (q := .de) h, .of_pop16 (q := .hl) h,
    hpopAf.imp ?_, fun _ => .of_pop16Idx h⟩
  rintro t ⟨hsp, haf⟩
  have ha : t.a = s.peek (s.sp + 1) := by simpa [State.getQQ, State.peekWord] using congrArg hiByte haf
  have hf : t.f.toByte = s.peek s.sp := by simpa [State.getQQ, State.peekWord] using congrArg loByte haf
  exact ⟨hsp, ha, hf⟩

end Sys2Proof.Machine
end

section
/-! PROOFS. The statements of 42_exchange_block.md: the exchanges once and twice, and one iteration of the block moves and compares. -/

namespace Sys2Proof.Machine

open Claims

/-! ### Frames -/

theorem State.sameBut.setShadowAf {w : Touch} {s t : State} (h : s.sameBut w t) (v : Byte) (g : Flags) (hw : w.shadowAf = true) :
    s.sameBut w { t with aAlt := v, fAlt := g } := by
  obtain ⟨hregs, hidx, hsp, hpc, hf, -, hrest⟩ := h
  exact ⟨fun q hq => (by cases q <;> rfl : _ = t.get8 q).trans (hregs q hq),
    fun jj hj => (by cases jj <;> rfl : _ = t.idx jj).trans (hidx jj hj), hsp, hpc, hf, fun e => by simp [hw] at e, hrest⟩

theorem State.sameBut.setShadowBank {w : Touch} {s t : State} (h : s.sameBut w t) (b c d e h' l : Byte) (hw : w.shadowBank = true) :
    s.sameBut w { t with bAlt := b, cAlt := c, dAlt := d, eAlt := e, hAlt := h', lAlt := l } := by
  obtain ⟨hregs, hidx, hsp, hpc, hf, haf, -, hrest⟩ := h
  exact ⟨fun q hq => (by cases q <;> rfl : _ = t.get8 q).trans (hregs q hq),
    fun jj hj => (by cases jj <;> rfl : _ = t.idx jj).trans (hidx jj hj), hsp, hpc, hf, haf, fun e => by simp [hw] at e, hrest⟩

/-- Bytes a frame lists that hold what they held need not be listed. -/
theorem State.sameBut.of_bytes_restored {w : Touch} {s t : State} (h : s.sameBut w t) (hb : ∀ a ∈ w.bytes, t.peek a = s.peek a) :
    s.sameBut { w with bytes := [] } t := by
  obtain ⟨h1, h2, h3, h4, h5, h6, h7, h8, h9, h10, h11, h12, h13, h14, h15, h16, h17, h18, h19, hmem⟩ := h
  refine ⟨h1, h2, h3, h4, h5, h6, h7, h8, h9, h10, h11, h12, h13, h14, h15, h16, h17, h18, h19, fun a _ => ?_⟩
  by_cases ha : a ∈ w.bytes
  · exact hb a ha
  · exact hmem a ha

/-- A jump after other updates, which need not allow one. -/
theorem State.sameBut.then_jump {w : Touch} {s t : State} (h : s.sameBut w t) (a : Word) :
    s.sameBut { w with pc := true } (t.jump a) := by
  obtain ⟨hregs, hidx, hsp, -, hrest⟩ := h
  exact ⟨fun q hq => (by cases q <;> rfl : _ = t.get8 q).trans (hregs q hq),
    fun jj hj => (by cases jj <;> rfl : _ = t.idx jj).trans (hidx jj hj), hsp, nofun, hrest⟩

/-! ### The exchanges (R231 to R235) -/

/-- EX DE,HL as a swap of values (R233). -/
def State.swapDeHl (s : State) : State := (s.set16 .de s.hl).set16 .hl s.de

/-- EX (SP),HL as a swap of values (R234). -/
def State.swapMemSpHl (s : State) : State := (s.pokeWord s.sp s.hl).set16 .hl (s.peekWord s.sp)

theorem State.swapDeHl_de (s : State) : s.swapDeHl.de = s.hl := joinBytes_hiByte_loByte s.hl
theorem State.swapDeHl_hl (s : State) : s.swapDeHl.hl = s.de := joinBytes_hiByte_loByte s.de
theorem State.swapMemSpHl_hl (s : State) : s.swapMemSpHl.hl = s.peekWord s.sp := joinBytes_hiByte_loByte (s.peekWord s.sp)

@[simp] theorem State.swapMemSpHl_params (s : State) : s.swapMemSpHl.params = s.params := State.set16_params _ _ _
@[simp] theorem State.swapMemSpHl_cycles (s : State) : s.swapMemSpHl.cycles = s.cycles := State.set16_cycles _ _ _
@[simp] theorem State.swapMemSpHl_mem (s : State) : s.swapMemSpHl.mem = (s.pokeWord s.sp s.hl).mem := State.set16_mem _ _ _

theorem holdsWord_of_mem {s t : State} {a v : Word} (hmem : t.mem = s.mem) (h : holdsWord s a v) : holdsWord t a v := by
  rwa [holdsWord, State.peek_of_mem hmem, State.peek_of_mem hmem]

theorem exec_exMemSpHl_ok {s : State} (h : s.params.memFault = false) :
    exec .exMemSpHl s = retire .exMemSpHl false s.swapMemSpHl := by
  rw [exec_exMemSpHl, execExMemSpHl, readWord_ok h, writeWord_ok h, State.swapMemSpHl]

theorem exec_exMemSpIi_ok {s : State} (ii : Idx) (h : s.params.memFault = false) :
    exec (.exMemSpIi ii) s = retire (.exMemSpIi ii) false ((s.pokeWord s.sp (s.idx ii)).setIdx ii (s.peekWord s.sp)) := by
  rw [exec_exMemSpIi, execExMemSpIi, readWord_ok h, writeWord_ok h]

/-- Settles O29: each form is one swap, and its frame is the chain of the swap's updates. -/
theorem exchanges : Obligations.Exchanges := by
  intro s
  have hframe (w : Touch) : s.sameBut w s := .refl w s
  have hstored {w : Touch} (v : Word) (hw : w.bytes = wordBytes s.sp) : s.sameBut w (s.pokeWord s.sp v) :=
    (hframe w).pokeWord s.sp v (hw ▸ mem_wordBytes _) (hw ▸ succ_mem_wordBytes _)
  refine ⟨?_, ?_, ?_, fun h => ⟨?_, fun ii => ?_⟩⟩
  · exact .of_retire (t := s.swapAf) rfl rfl rfl rfl rfl
      (((hframe _).setShadowAf s.a s.f rfl).setF s.fAlt rfl |>.set8 .a s.aAlt (by decide)) fun _ => ⟨rfl, rfl, rfl, rfl⟩
  · exact .of_retire (t := s.swapBank) rfl rfl rfl rfl rfl
      ((hframe _).setShadowBank s.b s.c s.d s.e s.h s.l rfl
        |>.set8 .b s.bAlt (by decide) |>.set8 .c s.cAlt (by decide) |>.set8 .d s.dAlt (by decide)
        |>.set8 .e s.eAlt (by decide) |>.set8 .h s.hAlt (by decide) |>.set8 .l s.lAlt (by decide))
      fun _ => ⟨rfl, rfl, rfl, rfl, rfl, rfl, rfl, rfl, rfl, rfl, rfl, rfl⟩
  · exact .of_retire (t := s.swapDeHl) rfl rfl rfl rfl rfl
      ((hframe _).set16 .de s.hl (by decide) nofun |>.set16 .hl s.de (by decide) nofun) fun _ =>
      ⟨s.swapDeHl_de, s.swapDeHl_hl⟩
  · exact .of_retire (exec_exMemSpHl_ok h) rfl rfl s.swapMemSpHl_cycles s.swapMemSpHl_params
      ((hstored s.hl rfl).set16 .hl _ (fun _ => id) nofun) fun _ =>
      ⟨s.swapMemSpHl_hl, holdsWord_of_mem s.swapMemSpHl_mem (s.holdsWord_pokeWord s.sp s.hl)⟩
  · exact .of_retire (exec_exMemSpIi_ok ii h) rfl rfl (State.setIdx_cycles _ _ _) (State.setIdx_params _ _ _)
      ((hstored (s.idx ii) rfl).setIdx ii _ (List.mem_singleton_self ii)) fun _ => by
        simpa [holdsWord] using s.holdsWord_pokeWord s.sp (s.idx ii)

/-! ### Exchanges done twice -/

theorem State.spend_spend (s : State) (m n : Nat) : (s.spend m).spend n = s.spend (m + n) := by
  simp only [State.spend, BitVec.ofNat_add, BitVec.add_assoc]

/-- An instruction that is one update, which does not touch the T-states, done twice: the update twice, at twice the cost. -/
theorem exec_twice {i : Instr} {s : State} {u : State → State} (hexec : ∀ t, t.params = s.params → exec i t = retire i false (u t))
    (hspend : ∀ t n, u (t.spend n) = (u t).spend n) (hparams : ∀ t, (u t).params = t.params) :
    ∃ t, exec i s = .next t ∧ exec i t = .next ((u (u s)).spend (2 * cost s.params.costs i false)) := by
  refine ⟨_, hexec s rfl, ?_⟩
  have hspent : ((u s).spend (cost (u s).params.costs i false)).params = s.params := hparams s
  rw [hexec _ hspent, retire]
  simp only [hspend, hparams, State.spend_params, State.spend_spend, Nat.two_mul]

theorem State.swapDeHl_swapDeHl (s : State) : s.swapDeHl.swapDeHl = s := by
  rw [State.swapDeHl, s.swapDeHl_de, s.swapDeHl_hl]
  simp [State.swapDeHl, State.set16, State.de, State.hl]

/-- The second EX (SP),HL stores back the word the first one read. -/
theorem State.swapMemSpHl_swapMemSpHl (s : State) :
    s.swapMemSpHl.swapMemSpHl = (s.pokeWord s.sp s.hl).pokeWord s.sp (s.peekWord s.sp) := by
  have hsp : s.swapMemSpHl.sp = s.sp := rfl
  have hword : s.swapMemSpHl.peekWord s.sp = s.hl :=
    (State.peekWord_of_mem s.swapMemSpHl_mem s.sp).trans (s.peekWord_pokeWord s.sp s.hl)
  rw [State.swapMemSpHl, hsp, s.swapMemSpHl_hl, hword]
  simp [State.swapMemSpHl, State.set16, State.pokeWord, State.poke, State.hl]

theorem State.swapMemSpHl_spend (s : State) (n : Nat) : (s.spend n).swapMemSpHl = s.swapMemSpHl.spend n := by
  have hword : (s.spend n).peekWord s.sp = s.peekWord s.sp := State.peekWord_of_mem rfl s.sp
  rw [State.swapMemSpHl, State.spend_sp, hword]
  rfl

theorem State.holdsWord_peekWord (s : State) (a : Word) : holdsWord s a (s.peekWord a) := by
  simp [holdsWord, State.peekWord]

/-- A word stored over another and equal to the one there before leaves every byte of memory as it was. -/
theorem State.sameBut_pokeWord_back (s : State) (a v : Word) : s.sameBut {} ((s.pokeWord a v).pokeWord a (s.peekWord a)) := by
  have hframe : s.sameBut { bytes := wordBytes a } ((s.pokeWord a v).pokeWord a (s.peekWord a)) :=
    (State.sameBut.refl _ s).pokeWord a v (mem_wordBytes a) (succ_mem_wordBytes a)
      |>.pokeWord a _ (mem_wordBytes a) (succ_mem_wordBytes a)
  obtain ⟨hlo, hhi⟩ := (s.pokeWord a v).holdsWord_pokeWord a (s.peekWord a)
  obtain ⟨hlo', hhi'⟩ := s.holdsWord_peekWord a
  refine hframe.of_bytes_restored ?_
  simpa [wordBytes] using ⟨hlo.trans hlo'.symm, hhi.trans hhi'.symm⟩

/-- Settles O30: each exchange is a swap that is its own inverse, up to how memory's bytes are kept for EX (SP),HL. -/
theorem exchangeTwice : Obligations.ExchangeTwice := by
  intro s
  refine ⟨exec_twice (u := State.swapAf) (fun _ _ => rfl) (fun _ _ => rfl) fun _ => rfl,
    exec_twice (u := State.swapBank) (fun _ _ => rfl) (fun _ _ => rfl) fun _ => rfl, ?_, fun h => ?_⟩
  · obtain ⟨t, h1, h2⟩ := exec_twice (i := .exDeHl) (s := s) (u := State.swapDeHl) (fun _ _ => rfl) (fun _ _ => rfl) fun _ => rfl
    exact ⟨t, h1, by rw [h2, s.swapDeHl_swapDeHl]⟩
  · obtain ⟨t, h1, h2⟩ := exec_twice (i := .exMemSpHl) (s := s) (u := State.swapMemSpHl)
      (fun t ht => exec_exMemSpHl_ok (ht ▸ h)) State.swapMemSpHl_spend State.swapMemSpHl_params
    rw [s.swapMemSpHl_swapMemSpHl] at h2
    exact ⟨t, _, h1, h2, (s.sameBut_pokeWord_back s.sp s.hl).spend _, by simp⟩

/-! ### Block instructions -/

/-- What a direction adds to a pointer. -/
def Direction.offset : Direction → Word
  | .up => 1
  | .down => -1

theorem Direction.move_eq_add (dir : Direction) (w : Word) : dir.move w = w + dir.offset := by
  cases dir
  · rfl
  · exact sub_eq_add_neg w 1

theorem xyRule_of_xyValue {s t : State} {v : Byte} {n : Nat} (h : (t.f.y, t.f.x) = xyValue s.params.xyMode (.ofNibble v) s.f n) :
    xyRule s t (v.getLsbD 1) (v.getLsbD 3) := by
  refine ⟨fun hm => ?_, fun hm => ?_⟩ <;> rw [hm] at h <;> exact Prod.mk.inj h

/-- The repeat of R240 as one jump, to where PC already is when the instruction does not repeat. -/
theorem repeatWhile_eq_retire (i : Instr) (again : Bool) (s : State) :
    repeatWhile i again s = retire i again (s.jump (if again then s.pc - 2 else s.pc)) := by
  cases again <;> rfl

/-- A block instruction that repeats: what one iteration without the repeat does, and where PC is left. -/
theorem Completes.of_repeatWhile {i : Instr} {bs : List Byte} {s t : State} {again : Bool} {w : Touch} {post : State → Prop}
    (hexec : exec i s = repeatWhile i again t) (hbytes : encode i = bs) (hrepeat : cost [] i true = 21) (hlast : cost [] i false = 16)
    (hcycles : t.cycles = s.cycles) (hparams : t.params = s.params) (hpc : t.pc = s.pc) (hframe : s.sameBut w t)
    (hpost : ∀ a m, post ((t.jump a).spend m)) :
    Completes i bs s (if again then 21 else 16) { w with pc := true } fun u => post u ∧ repeats s again u := by
  have hcost : cost [] i again = if again then 21 else 16 := by
    cases again
    · exact hlast
    · exact hrepeat
  rw [repeatWhile_eq_retire, hpc] at hexec
  exact .of_retire hexec hbytes hcost hcycles hparams (hframe.then_jump _) fun m => ⟨hpost _ m, rfl⟩

/-! ### Block moves (R236 to R239) -/

theorem moveEffect_spend {s t : State} {step : Word} (h : moveEffect s step t) (n : Nat) : moveEffect s step (t.spend n) := h

theorem moveEffect_jump {s t : State} {step : Word} (h : moveEffect s step t) (a : Word) : moveEffect s step (t.jump a) := h

section
variable (s : State) (dir : Direction) (v : Byte)

@[simp] theorem State.moved_cycles : (s.moved dir v).cycles = s.cycles := rfl
@[simp] theorem State.moved_params : (s.moved dir v).params = s.params := rfl
@[simp] theorem State.moved_pc : (s.moved dir v).pc = s.pc := rfl
@[simp] theorem State.moved_mem : (s.moved dir v).mem = s.mem := rfl

/-- What a block move does to the registers and flags, whatever byte it moves. -/
theorem State.moved_effect : pointers s (s.moved dir v) dir.offset ∧ (s.moved dir v).de = s.de + dir.offset ∧
    flagsAre (s.moved dir v) s.f.s s.f.z false (s.bc - 1 != 0) false s.f.c ∧
    xyRule s (s.moved dir v) ((s.a + v).getLsbD 1) ((s.a + v).getLsbD 3) := by
  have hhl : (s.moved dir v).hl = dir.move s.hl := joinBytes_hiByte_loByte (dir.move s.hl)
  have hde : (s.moved dir v).de = dir.move s.de := joinBytes_hiByte_loByte (dir.move s.de)
  have hbc : (s.moved dir v).bc = s.bc - 1 := joinBytes_hiByte_loByte (s.bc - 1)
  have hpv : (s.moved dir v).f.pv = ((s.moved dir v).bc != 0) := rfl
  rw [dir.move_eq_add] at hhl hde
  rw [hbc] at hpv
  exact ⟨⟨hhl, hbc⟩, hde, ⟨rfl, rfl, rfl, hpv, rfl, rfl⟩, xyRule_of_xyValue (n := s.draws) rfl⟩

end

/-- The state one block move leaves. -/
def State.blockMoved (s : State) (dir : Direction) : State := (s.poke s.de (s.peek s.hl)).moved dir (s.peek s.hl)

theorem State.blockMoved_effect (s : State) (dir : Direction) : moveEffect s dir.offset (s.blockMoved dir) := by
  have hmem : (s.blockMoved dir).mem = (s.poke s.de (s.peek s.hl)).mem := State.moved_mem _ dir _
  have hbyte : (s.blockMoved dir).peek s.de = s.peek s.hl := (State.peek_of_mem hmem s.de).trans (s.peek_poke_same _ _)
  obtain ⟨hpointers, hde, hflags, hxy⟩ := (s.poke s.de (s.peek s.hl)).moved_effect dir (s.peek s.hl)
  exact ⟨hpointers, hde, hbyte, hflags, hxy⟩

theorem State.sameBut_blockMoved (s : State) (dir : Direction) : s.sameBut (moveTouch s) (s.blockMoved dir) :=
  (State.sameBut.refl _ s).poke s.de _ (List.mem_singleton_self _)
    |>.set16 .hl _ (by simp [pairTouch, moveTouch]) nofun |>.set16 .de _ (by simp [pairTouch, moveTouch]) nofun
    |>.set16 .bc _ (by simp [pairTouch, moveTouch]) nofun |>.writeFlags _ _ rfl

theorem Completes.of_moveBlock {i : Instr} {bs : List Byte} {s : State} {dir : Direction} (h : s.params.memFault = false)
    (hexec : exec i s = moveBlock dir s fun s => retire i false s) (hbytes : encode i = bs) (hcost : cost [] i false = 16) :
    Completes i bs s 16 (moveTouch s) (moveEffect s dir.offset) :=
  .of_retire (hexec.trans (moveBlock_ok h)) hbytes hcost (State.moved_cycles _ _ _) (State.moved_params _ _ _) (s.sameBut_blockMoved dir)
    (moveEffect_spend (s.blockMoved_effect dir))

theorem Completes.of_moveBlock_repeat {i : Instr} {bs : List Byte} {s : State} {dir : Direction} (h : s.params.memFault = false)
    (hexec : exec i s = moveBlock dir s fun s => repeatWhile i (s.bc != 0) s) (hbytes : encode i = bs)
    (hrepeat : cost [] i true = 21) (hlast : cost [] i false = 16) :
    Completes i bs s (if s.bc - 1 != 0 then 21 else 16) { moveTouch s with pc := true } fun t =>
      moveEffect s dir.offset t ∧ repeats s (s.bc - 1 != 0) t := by
  obtain ⟨⟨-, hbc⟩, -⟩ := s.blockMoved_effect dir
  have hexec : exec i s = repeatWhile i (s.bc - 1 != 0) (s.blockMoved dir) := by rw [hexec, moveBlock_ok h, ← hbc]; rfl
  exact .of_repeatWhile hexec hbytes hrepeat hlast (State.moved_cycles _ _ _) (State.moved_params _ _ _) (State.moved_pc _ _ _)
    (s.sameBut_blockMoved dir) fun a =>
    moveEffect_spend (moveEffect_jump (s.blockMoved_effect dir) a)

/-- Settles O31: the four forms are the two directions, without and with the repeat. -/
theorem blockMoves : Obligations.BlockMoves := fun _ h =>
  ⟨.of_moveBlock (dir := .up) h rfl rfl rfl, .of_moveBlock (dir := .down) h rfl rfl rfl,
    .of_moveBlock_repeat (dir := .up) h rfl rfl rfl rfl, .of_moveBlock_repeat (dir := .down) h rfl rfl rfl rfl⟩

/-! ### Block compares (R241 to R244) -/

theorem sub_beq_zero (a v : Byte) : (a - v == 0) = (a == v) := by
  rw [Bool.eq_iff_iff, beq_iff_eq, beq_iff_eq, sub_eq_zero]

theorem State.compared_effect (s : State) (dir : Direction) : compareEffect s dir.offset (s.compared dir (s.peek s.hl)) := by
  have hhl : (s.compared dir (s.peek s.hl)).hl = dir.move s.hl := joinBytes_hiByte_loByte (dir.move s.hl)
  have hbc : (s.compared dir (s.peek s.hl)).bc = s.bc - 1 := joinBytes_hiByte_loByte (s.bc - 1)
  have hpv : (s.compared dir (s.peek s.hl)).f.pv = ((s.compared dir (s.peek s.hl)).bc != 0) := rfl
  rw [dir.move_eq_add] at hhl
  rw [hbc] at hpv
  exact ⟨⟨hhl, hbc⟩, ⟨rfl, sub_beq_zero _ _, rfl, hpv, rfl, rfl⟩, xyRule_of_xyValue (n := s.draws) rfl⟩

theorem State.sameBut_compared (s : State) (dir : Direction) (v : Byte) : s.sameBut compareTouch (s.compared dir v) :=
  (State.sameBut.refl _ s).set16 .hl _ (by decide) nofun |>.set16 .bc _ (by decide) nofun |>.writeFlags _ _ rfl

theorem Completes.of_compareBlock {i : Instr} {bs : List Byte} {s : State} {dir : Direction} (h : s.params.memFault = false)
    (hexec : exec i s = compareBlock dir s fun s => retire i false s) (hbytes : encode i = bs) (hcost : cost [] i false = 16) :
    Completes i bs s 16 compareTouch (compareEffect s dir.offset) :=
  .of_retire (hexec.trans (compareBlock_ok h)) hbytes hcost rfl rfl (s.sameBut_compared dir _) fun _ => s.compared_effect dir

theorem Completes.of_compareBlock_repeat {i : Instr} {bs : List Byte} {s : State} {dir : Direction} {again : Bool}
    (hagain : again = (s.bc - 1 != 0 && s.a != s.peek s.hl)) (h : s.params.memFault = false)
    (hexec : exec i s = compareBlock dir s fun s => repeatWhile i (s.bc != 0 && !s.f.z) s) (hbytes : encode i = bs)
    (hrepeat : cost [] i true = 21) (hlast : cost [] i false = 16) :
    Completes i bs s (if again then 21 else 16) { compareTouch with pc := true } fun t =>
      compareEffect s dir.offset t ∧ repeats s again t := by
  obtain ⟨⟨-, hbc⟩, ⟨-, hz, -⟩, -⟩ := s.compared_effect dir
  have hexec : exec i s = repeatWhile i again (s.compared dir (s.peek s.hl)) := by
    rw [hexec, compareBlock_ok h, hbc, hz, hagain]; rfl
  exact .of_repeatWhile hexec hbytes hrepeat hlast rfl rfl rfl (s.sameBut_compared dir _) fun _ _ => s.compared_effect dir

/-- Settles O32: the four forms are the two directions, without and with the repeat. -/
theorem blockCompares : Obligations.BlockCompares := fun _ h =>
  ⟨.of_compareBlock (dir := .up) h rfl rfl rfl, .of_compareBlock (dir := .down) h rfl rfl rfl,
    .of_compareBlock_repeat (dir := .up) rfl h rfl rfl rfl rfl, .of_compareBlock_repeat (dir := .down) rfl h rfl rfl rfl rfl⟩

end Sys2Proof.Machine
end

section
/-! PROOFS. The statements of 43_arith8.md: the eight accumulator operations in six forms, INC and DEC, the accumulator adjustments,
and decimal arithmetic. -/

namespace Sys2Proof.Machine

open Claims

/-! ### Values and flags -/

theorem sub_eq_ofInt (a b : Byte) : a - b = BitVec.ofInt 8 ((a.toNat : Int) - b.toNat) := by
  apply BitVec.eq_of_toNat_eq
  rw [BitVec.toNat_sub, BitVec.toNat_ofInt]
  omega

theorem sub8_false (a b : Byte) : sub8 a b false = a - b := by
  rw [sub_eq_ofInt, sub8, diff8, Bool.toNat_false, Int.natCast_zero, Int.sub_zero]

theorem sub8Flags_h (f : Flags) (a b : Byte) (cin : Bool) :
    (sub8Flags f a b cin).h = decide (a.toNat % 16 < b.toNat % 16 + cin.toNat) := by
  rw [sub8Flags, decide_eq_decide, lowNibble, lowNibble]
  omega

theorem sub8Flags_c (f : Flags) (a b : Byte) (cin : Bool) : (sub8Flags f a b cin).c = decide (a.toNat < b.toNat + cin.toNat) := by
  rw [sub8Flags, decide_eq_decide, diff8]
  omega

theorem flagsAre_of_flags {s t : State} {g : Flags} {src : XySource} (ht : t.f = (s.writeFlags g src).f) :
    flagsAre t g.s g.z g.h g.pv g.n g.c := by
  rw [flagsAre, ht]
  exact ⟨rfl, rfl, rfl, rfl, rfl, rfl⟩

theorem subFlags_of_flags {s t : State} {a v : Byte} {cin : Bool} {src : XySource}
    (ht : t.f = (s.writeFlags (sub8Flags s.f a v cin) src).f) : subFlags a v cin (sub8 a v cin) t := by
  rw [subFlags, ← sub8Flags_h s.f, ← sub8Flags_c s.f]
  exact flagsAre_of_flags ht

theorem xyOf_of_flags {s t : State} {g : Flags} {v : Byte} (ht : t.f = (s.writeFlags g (.ofByte v)).f) : xyOf s t v := by
  rw [xyOf, xyRule, ht]
  exact s.writeFlags_xyOf g v

/-! ### The accumulator operations (R261 to R269) -/

namespace AluOp

/-- The code of an operation in `alu[y]` (30_encoding.md R100). -/
def code : AluOp → BitVec 3
  | add => 0 | adc => 1 | sub => 2 | sbc => 3 | and => 4 | xor => 5 | or => 6 | cp => 7

/-- The operation on a register. -/
def onReg : AluOp → Reg8 → Instr
  | add => .addAR | adc => .adcAR | sub => .subR | sbc => .sbcAR | and => .andR | xor => .xorR | or => .orR | cp => .cpR

/-- The operation on an immediate byte. -/
def onImm : AluOp → Byte → Instr
  | add => .addAN | adc => .adcAN | sub => .subN | sbc => .sbcAN | and => .andN | xor => .xorN | or => .orN | cp => .cpN

/-- The operation on the high half of an index register. -/
def onHi : AluOp → Idx → Instr
  | add => .addAIih | adc => .adcAIih | sub => .subIih | sbc => .sbcAIih | and => .andIih | xor => .xorIih | or => .orIih | cp => .cpIih

/-- The operation on the low half of an index register. -/
def onLo : AluOp → Idx → Instr
  | add => .addAIil | adc => .adcAIil | sub => .subIil | sbc => .sbcAIil | and => .andIil | xor => .xorIil | or => .orIil | cp => .cpIil

/-- The operation on the byte at HL. -/
def onHl : AluOp → Instr
  | add => .addAMemHl | adc => .adcAMemHl | sub => .subMemHl | sbc => .sbcAMemHl | and => .andMemHl | xor => .xorMemHl | or => .orMemHl
  | cp => .cpMemHl

/-- The operation on the byte at an index register and a displacement. -/
def onIid : AluOp → Idx → Byte → Instr
  | add => .addAMemIid | adc => .adcAMemIid | sub => .subMemIid | sbc => .sbcAMemIid | and => .andMemIid | xor => .xorMemIid
  | or => .orMemIid | cp => .cpMemIid

/-- What an operation may change: CP leaves A. -/
def touch : AluOp → Touch
  | cp => { flags := true }
  | _ => { regs := [.a], flags := true }

/-- What an operation does to A and F with the source value `v`. -/
def effect : AluOp → State → Byte → State → Prop
  | add, s, v, t => addEffect s false v t
  | adc, s, v, t => addEffect s s.f.c v t
  | sub, s, v, t => subEffect s s.a false v t
  | sbc, s, v, t => subEffect s s.a s.f.c v t
  | and, s, v, t => logicEffect (· &&& ·) true s v t
  | xor, s, v, t => logicEffect (· ^^^ ·) false s v t
  | or, s, v, t => logicEffect (· ||| ·) false s v t
  | cp, s, v, t => subFlags s.a v false (s.a - v) t ∧ xyOf s t v

end AluOp

section
variable {s t : State} {v : Byte}

theorem addEffect_of_addA {cin : Bool} (ha : t.a = (s.addA v cin).a) (hf : t.f = (s.addA v cin).f) : addEffect s cin v t := by
  obtain ha : t.a = add8 s.a v cin := ha
  exact ⟨ha, ha ▸ flagsAre_of_flags hf, ha ▸ xyOf_of_flags hf⟩

theorem subEffect_of_flags {a : Byte} {cin : Bool} (ha : t.a = sub8 a v cin)
    (hf : t.f = (s.writeFlags (sub8Flags s.f a v cin) (.ofByte (sub8 a v cin))).f) : subEffect s a cin v t :=
  ⟨ha, ha ▸ subFlags_of_flags hf, ha ▸ xyOf_of_flags hf⟩

theorem logicEffect_of_logicA {op : LogicOp} (ha : t.a = (s.logicA op v).a) (hf : t.f = (s.logicA op v).f) :
    logicEffect (logic8 op) (op == .and) s v t := by
  obtain ha : t.a = logic8 op s.a v := ha
  refine ⟨ha, ?_, ha ▸ xyOf_of_flags hf⟩
  rw [ha, ← parity_eq_evenOnes]
  exact flagsAre_of_flags hf

theorem subFlags_of_compareA (hf : t.f = (s.compareA v).f) : subFlags s.a v false (s.a - v) t ∧ xyOf s t v :=
  ⟨sub8_false s.a v ▸ subFlags_of_flags hf, xyOf_of_flags hf⟩

end

theorem State.alu_effect {op : AluOp} {s t : State} {v : Byte} (ha : t.a = (s.alu op v).a) (hf : t.f = (s.alu op v).f) :
    op.effect s v t := by
  cases op
  case add => exact addEffect_of_addA ha hf
  case adc => exact addEffect_of_addA ha hf
  case sub => exact subEffect_of_flags ha hf
  case sbc => exact subEffect_of_flags ha hf
  case and => exact logicEffect_of_logicA (op := .and) ha hf
  case xor => exact logicEffect_of_logicA (op := .xor) ha hf
  case or => exact logicEffect_of_logicA (op := .or) ha hf
  case cp => exact subFlags_of_compareA hf

theorem State.sameBut_alu (s : State) (op : AluOp) (v : Byte) : s.sameBut op.touch (s.alu op v) := by
  have hflags (g : Flags) (src : XySource) : s.sameBut op.touch (s.writeFlags g src) :=
    (State.sameBut.refl _ s).writeFlags g src (by cases op <;> rfl)
  cases op
  case cp => exact hflags _ _
  all_goals exact (hflags _ _).set8 .a _ (List.mem_singleton_self _)

section
variable {i : Instr} {bs : List Byte} {s : State} {n : Nat} {op : AluOp}

theorem Completes.of_alu {v : Byte} (hexec : exec i s = retire i false (s.alu op v) := by rfl) (hbytes : encode i = bs := by rfl)
    (hcost : cost [] i false = n := by rfl) : Completes i bs s n op.touch (op.effect s v) :=
  .of_retire hexec hbytes hcost (s.alu_cycles op v) (s.alu_params op v) (s.sameBut_alu op v) fun _ => State.alu_effect rfl rfl

theorem Completes.of_readByte_alu {a : Word} (h : s.params.memFault = false)
    (hexec : exec i s = readByte a s fun v s => retire i false (s.alu op v) := by rfl) (hbytes : encode i = bs := by rfl)
    (hcost : cost [] i false = n := by rfl) : Completes i bs s n op.touch (op.effect s (s.peek a)) :=
  .of_alu (hexec.trans (readByte_ok h)) hbytes hcost

end

/-- The six forms of an operation do what `AluOp.effect` says, each on its own source value. -/
theorem AluOp.sixForms (op : AluOp) :
    Claims.sixForms op.code op.onReg op.onImm op.onHi op.onLo op.onHl op.onIid op.touch op.effect := by
  intro s
  cases op <;>
    exact ⟨fun _ => .of_alu, fun _ => .of_alu, fun _ => .of_alu, fun _ => .of_alu, fun h =>
      ⟨.of_readByte_alu h, fun _ _ => .of_readByte_alu h⟩⟩

/-- Settles O33: the six forms of the two operations. -/
theorem addAndAdc : Obligations.AddAndAdc := ⟨AluOp.sixForms .add, AluOp.sixForms .adc⟩

/-- Settles O34: the six forms of the two operations. -/
theorem subAndSbc : Obligations.SubAndSbc := ⟨AluOp.sixForms .sub, AluOp.sixForms .sbc⟩

/-- Settles O35: the six forms of the three operations. -/
theorem logicOperations : Obligations.LogicOperations := ⟨AluOp.sixForms .and, AluOp.sixForms .xor, AluOp.sixForms .or⟩

/-- Settles O36: the six forms of CP, whose frame leaves A out. -/
theorem compare : Obligations.Compare := AluOp.sixForms .cp

/-! ### Flags written and then one byte (R270 to R282) -/

@[simp] theorem State.writeFlags_idxHi (s : State) (g : Flags) (src : XySource) (ii : Idx) : (s.writeFlags g src).idxHi ii = s.idxHi ii :=
  congrArg hiByte (s.writeFlags_idx g src ii)

@[simp] theorem State.writeFlags_idxLo (s : State) (g : Flags) (src : XySource) (ii : Idx) : (s.writeFlags g src).idxLo ii = s.idxLo ii :=
  congrArg loByte (s.writeFlags_idx g src ii)

section
variable {i : Instr} {bs : List Byte} {s : State} {n : Nat} {g : Flags} {src : XySource} {post : State → Prop}
  (hpost : ∀ t : State, t.f = (s.writeFlags g src).f → post t)
  (hbytes : encode i = bs := by rfl) (hcost : cost [] i false = n := by rfl)
include hpost hbytes hcost

theorem Completes.of_writeFlags (hexec : exec i s = retire i false (s.writeFlags g src) := by rfl) :
    Completes i bs s n { flags := true } post :=
  .of_retire hexec hbytes hcost rfl rfl ((State.sameBut.refl _ s).writeFlags g src rfl) fun _ => hpost _ rfl

theorem Completes.of_flags_set8 {r : Reg8} {v : Byte} (hexec : exec i s = retire i false ((s.writeFlags g src).set8 r v) := by rfl) :
    Completes i bs s n { regs := [r], flags := true } fun t => t.get8 r = v ∧ post t :=
  .of_retire hexec hbytes hcost (State.set8_cycles _ r v) (State.set8_params _ r v)
    (((State.sameBut.refl _ s).writeFlags g src rfl).set8 r v (List.mem_singleton_self r)) fun _ => ⟨by simp, hpost _ (by simp)⟩

theorem Completes.of_flags_setIdxHi {ii : Idx} {v : Byte}
    (hexec : exec i s = retire i false ((s.writeFlags g src).setIdxHi ii v) := by rfl) :
    Completes i bs s n { idx := [ii], flags := true } fun t => hiBecomes ii v s t ∧ post t :=
  .of_retire hexec hbytes hcost (State.setIdxHi_cycles _ ii v) (State.setIdxHi_params _ ii v)
    (((State.sameBut.refl _ s).writeFlags g src rfl).setIdxHi ii v (List.mem_singleton_self ii)) fun _ =>
    ⟨by simp [hiBecomes], hpost _ (by simp)⟩

theorem Completes.of_flags_setIdxLo {ii : Idx} {v : Byte}
    (hexec : exec i s = retire i false ((s.writeFlags g src).setIdxLo ii v) := by rfl) :
    Completes i bs s n { idx := [ii], flags := true } fun t => loBecomes ii v s t ∧ post t :=
  .of_retire hexec hbytes hcost (State.setIdxLo_cycles _ ii v) (State.setIdxLo_params _ ii v)
    (((State.sameBut.refl _ s).writeFlags g src rfl).setIdxLo ii v (List.mem_singleton_self ii)) fun _ =>
    ⟨by simp [loBecomes], hpost _ (by simp)⟩

end

/-- A byte of memory read, flags written, and another byte written back to the same address. -/
theorem Completes.of_flags_modify (addr : State → Word) (next : Byte → Byte) (flags : Flags → Byte → Flags) {i : Instr}
    {bs : List Byte} {s : State} {n : Nat} {post : State → Prop} (h : s.params.memFault = false)
    (hpost : ∀ t : State, t.f = (s.writeFlags (flags s.f (s.peek (addr s))) (.ofByte (next (s.peek (addr s))))).f → post t)
    (hexec : exec i s = readByte (addr s) s fun v s =>
      writeByte (addr s) (next v) (s.writeFlags (flags s.f v) (.ofByte (next v))) fun s => retire i false s := by rfl)
    (hbytes : encode i = bs := by rfl) (hcost : cost [] i false = n := by rfl) :
    Completes i bs s n { flags := true, bytes := [addr s] } fun t => t.peek (addr s) = next (s.peek (addr s)) ∧ post t :=
  .of_retire (hexec.trans ((readByte_ok h).trans (writeByte_ok h))) hbytes hcost rfl rfl
    (((State.sameBut.refl _ s).writeFlags _ _ rfl).poke (addr s) _ (List.mem_singleton_self _)) fun _ =>
    ⟨State.peek_poke_same _ _ _, hpost _ rfl⟩

/-! ### INC and DEC (R270 to R277) -/

theorem incEffect_of_flags {s : State} {v : Byte} (t : State) (ht : t.f = (s.incFlags v).f) : incEffect s v t :=
  ⟨flagsAre_of_flags ht, xyOf_of_flags ht⟩

theorem decEffect_of_flags {s : State} {v : Byte} (t : State) (ht : t.f = (s.decFlags v).f) : decEffect s v t :=
  ⟨flagsAre_of_flags ht, xyOf_of_flags ht⟩

/-- Settles O38: each form writes the flags of the old value and then the new value, to where the old one was. -/
theorem incrementAndDecrement : Obligations.IncrementAndDecrement := fun _ =>
  ⟨fun _ => .of_flags_set8 incEffect_of_flags, fun _ => .of_flags_set8 decEffect_of_flags,
    fun _ => .of_flags_setIdxHi incEffect_of_flags, fun _ => .of_flags_setIdxLo incEffect_of_flags,
    fun _ => .of_flags_setIdxHi decEffect_of_flags, fun _ => .of_flags_setIdxLo decEffect_of_flags,
    fun h => ⟨.of_flags_modify State.hl inc8 inc8Flags h incEffect_of_flags,
      .of_flags_modify State.hl dec8 dec8Flags h decEffect_of_flags, fun ii d =>
        ⟨.of_flags_modify (·.ea ii d) inc8 inc8Flags h incEffect_of_flags,
          .of_flags_modify (·.ea ii d) dec8 dec8Flags h decEffect_of_flags⟩⟩⟩

/-! ### DAA, CPL, NEG, CCF and SCF (R278 to R282) -/

/-- The two halves of the correction share no bit, so joining them adds them. -/
theorem daaCorrection_toNat (f : Flags) (a : Byte) :
    (daaCorrection f a).toNat =
      (if f.h || decide (a.toNat % 16 > 9) then 6 else 0) + (if f.c || decide (a.toNat > 0x99) then 0x60 else 0) := by
  rw [daaCorrection, lowNibble]
  cases f.h || decide (a.toNat % 16 > 9) <;> cases f.c || decide (a.toNat > 0x99) <;> rfl

/-- The result of DAA, the correction a number. -/
theorem daa_eq (f : Flags) (a : Byte) : daa f a =
    if f.n then BitVec.ofInt 8 ((a.toNat : Int) - (daaCorrection f a).toNat) else BitVec.ofNat 8 (a.toNat + (daaCorrection f a).toNat) := by
  rw [daa, sub_eq_ofInt, BitVec.add_def]

theorem neg_overflow (v : Byte) : ((0 ^^^ v) &&& (0 ^^^ sub8 0 v false)).msb = (v == 0x80) := by
  revert v; decide

theorem neg_borrow (f : Flags) (v : Byte) : (sub8Flags f 0 v false).c = (v != 0) := by
  rw [sub8Flags_c]
  revert v; decide

theorem negateA_completes {i : Instr} {bs : List Byte} {s : State} (hexec : exec i s = retire i false s.negateA)
    (hbytes : encode i = bs) (hcost : cost [] i false = 8) :
    Completes i bs s 8 { regs := [.a], flags := true } fun t =>
      subEffect s 0 false s.a t ∧ t.f.pv = (s.a == 0x80) ∧ t.f.c = (s.a != 0) := by
  refine (Completes.of_flags_set8 (fun _ => id) hbytes hcost hexec).imp fun t ⟨ha, hf⟩ => ?_
  obtain ⟨hres, hflags, hxy⟩ := subEffect_of_flags (a := 0) ha hf
  exact ⟨⟨hres, hflags, hxy⟩, (congrArg Flags.pv hf).trans (neg_overflow s.a), (congrArg Flags.c hf).trans (neg_borrow s.f s.a)⟩

/-- Settles O39: each instruction writes its flags and then, but for CCF and SCF, A. -/
theorem accumulatorAdjustments : Obligations.AccumulatorAdjustments := by
  refine ⟨fun s => ?_, fun s => ⟨?_, ?_, ?_, ?_⟩⟩
  · intro low big corr
    have hdaa : Completes .daa [0x27] s 4 { regs := [.a], flags := true } fun t =>
        t.get8 .a = daa s.f s.a ∧ t.f = s.decimalAdjust.f := .of_flags_set8 fun _ => id
    refine hdaa.imp fun t ⟨ha, hf⟩ => ?_
    obtain ha : t.a = daa s.f s.a := ha
    refine ⟨?_, ?_, ha ▸ xyOf_of_flags hf⟩
    · rw [ha, daa_eq, daaCorrection_toNat]
    · rw [ha, ← parity_eq_evenOnes]
      exact flagsAre_of_flags hf
  · have hcpl : Completes .cpl [0x2F] s 4 { regs := [.a], flags := true } fun t =>
        t.get8 .a = ~~~s.a ∧ t.f = s.complementA.f := .of_flags_set8 fun _ => id
    refine hcpl.imp fun t ⟨ha, hf⟩ => ?_
    obtain ha : t.a = ~~~s.a := ha
    exact ⟨by rw [ha, BitVec.toNat_not], flagsAre_of_flags hf, ha ▸ xyOf_of_flags hf⟩
  · rintro i y (⟨rfl, rfl⟩ | ⟨rfl, -⟩) <;> exact negateA_completes rfl rfl rfl
  · exact .of_writeFlags (g := ccfFlags s.f) (src := .drawn) fun _ ht => flagsAre_of_flags ht
  · exact .of_writeFlags (g := scfFlags s.f) (src := .drawn) fun _ ht => flagsAre_of_flags ht

/-! ### Decimal arithmetic -/

/-- A packed decimal byte is its two digits. -/
theorem bcd_eq_some_iff {v : Byte} {m : Nat} :
    bcd v = some m ↔ ∃ hi ≤ 9, ∃ lo ≤ 9, v.toNat = hi * 16 + lo ∧ hi * 10 + lo = m := by
  constructor
  · intro h
    obtain ⟨⟨hhi, hlo⟩, hm⟩ := Option.ite_none_right_eq_some.1 h
    exact ⟨v.toNat / 16, hhi, v.toNat % 16, hlo, (Nat.div_add_mod' v.toNat 16).symm, Option.some.inj hm⟩
  · rintro ⟨hi, hhi, lo, hlo, hv, rfl⟩
    obtain ⟨hdiv, hmod⟩ : v.toNat / 16 = hi ∧ v.toNat % 16 = lo := by omega
    rw [bcd, hdiv, hmod, if_pos ⟨hhi, hlo⟩]

theorem add8_toNat (a b : Byte) (cin : Bool) : (add8 a b cin).toNat = (a.toNat + b.toNat + cin.toNat) % 256 :=
  BitVec.toNat_ofNat _ 8

theorem sub8_toNat (a b : Byte) (cin : Bool) : (sub8 a b cin).toNat =
    if a.toNat < b.toNat + cin.toNat then a.toNat + 256 - (b.toNat + cin.toNat) else a.toNat - (b.toNat + cin.toNat) := by
  have hcin := cin.toNat_le
  rw [sub8, diff8, BitVec.toNat_ofInt]
  split <;> omega

section
variable {f : Flags} {v : Byte} {low high : Prop} [Decidable low] [Decidable high]
  (hlow : (f.h || decide (v.toNat % 16 > 9)) = decide low) (hhigh : (f.c || decide (v.toNat > 0x99)) = decide high)
include hlow hhigh

theorem daaCorrection_of_digits : (daaCorrection f v).toNat = (if low then 6 else 0) + (if high then 0x60 else 0) := by
  simp only [daaCorrection_toNat, hlow, hhigh, decide_eq_true_eq]

theorem daa_toNat_of_add (hn : f.n = false) :
    (daa f v).toNat = (v.toNat + ((if low then 6 else 0) + (if high then 0x60 else 0))) % 256 := by
  rw [daa, hn, ← daaCorrection_of_digits hlow hhigh]
  exact BitVec.toNat_add v _

theorem daa_toNat_of_sub (hn : f.n = true) :
    (daa f v).toNat = (v.toNat + 256 - ((if low then 6 else 0) + (if high then 0x60 else 0))) % 256 := by
  have hlt := (daaCorrection f v).isLt
  rw [← daaCorrection_of_digits hlow hhigh, daa, hn, if_pos rfl, BitVec.toNat_sub]
  omega

end

section
variable (f : Flags) {a b : Byte} (cin : Bool) {m n : Nat} (ha : bcd a = some m) (hb : bcd b = some n)
include ha hb

/-- After an addition the low digit is corrected when the low digits carry, the high one when the numbers do. -/
theorem decimal_add : bcd (daa (add8Flags f a b cin) (add8 a b cin)) = some ((m + n + cin.toNat) % 100) ∧
    (daaFlags (add8Flags f a b cin) (add8 a b cin)).c = decide (m + n + cin.toNat > 99) := by
  obtain ⟨p, hp, q, hq, ha, rfl⟩ := bcd_eq_some_iff.1 ha
  obtain ⟨u, hu, w, hw, hb, rfl⟩ := bcd_eq_some_iff.1 hb
  have hcin := cin.toNat_le
  have hsum := add8_toNat a b cin
  have hlow : ((add8Flags f a b cin).h || decide ((add8 a b cin).toNat % 16 > 9)) = decide (q + w + cin.toNat > 9) := by
    rw [add8Flags, lowNibble, lowNibble, ← Bool.decide_or, decide_eq_decide]
    omega
  have hhigh : ((add8Flags f a b cin).c || decide ((add8 a b cin).toNat > 0x99)) =
      decide (p * 10 + q + (u * 10 + w) + cin.toNat > 99) := by
    rw [add8Flags, sum8, ← Bool.decide_or, decide_eq_decide]
    omega
  have hres := daa_toNat_of_add hlow hhigh rfl
  refine ⟨bcd_eq_some_iff.2
    ⟨p + u + (if q + w + cin.toNat > 9 then 1 else 0) - (if p * 10 + q + (u * 10 + w) + cin.toNat > 99 then 10 else 0), ?_,
      q + w + cin.toNat - (if q + w + cin.toNat > 9 then 10 else 0), ?_, ?_, ?_⟩, hhigh⟩ <;>
    split_ifs at hres ⊢ <;> omega

/-- After a subtraction the low digit is corrected when the low digits borrow, the high one when the numbers do. -/
theorem decimal_sub : bcd (daa (sub8Flags f a b cin) (sub8 a b cin)) = some ((m + 100 - n - cin.toNat) % 100) ∧
    (daaFlags (sub8Flags f a b cin) (sub8 a b cin)).c = decide (m < n + cin.toNat) := by
  obtain ⟨p, hp, q, hq, ha, rfl⟩ := bcd_eq_some_iff.1 ha
  obtain ⟨u, hu, w, hw, hb, rfl⟩ := bcd_eq_some_iff.1 hb
  have hcin := cin.toNat_le
  have hdiff := sub8_toNat a b cin
  have hlow : ((sub8Flags f a b cin).h || decide ((sub8 a b cin).toNat % 16 > 9)) = decide (q < w + cin.toNat) := by
    rw [sub8Flags_h, ← Bool.decide_or, decide_eq_decide]
    split at hdiff <;> omega
  have hhigh : ((sub8Flags f a b cin).c || decide ((sub8 a b cin).toNat > 0x99)) = decide (p * 10 + q < u * 10 + w + cin.toNat) := by
    rw [sub8Flags_c, ← Bool.decide_or, decide_eq_decide]
    split at hdiff <;> omega
  have hres := daa_toNat_of_sub hlow hhigh rfl
  refine ⟨bcd_eq_some_iff.2
    ⟨p + (if p * 10 + q < u * 10 + w + cin.toNat then 10 else 0) - u - (if q < w + cin.toNat then 1 else 0), ?_,
      q + (if q < w + cin.toNat then 10 else 0) - w - cin.toNat, ?_, ?_, ?_⟩, hhigh⟩ <;>
    split_ifs at hres hdiff ⊢ <;> omega

end

/-- Settles O40: DAA corrects exactly the digits that carried or borrowed. -/
theorem decimalArithmetic : Obligations.DecimalArithmetic := fun f _ _ cin _ _ ha hb =>
  ⟨decimal_add f cin ha hb, decimal_sub f cin ha hb⟩

end Sys2Proof.Machine
end

section
/-! PROOFS. The statements of 44_arith16.md: the 16-bit additions and subtractions with their flags, and the pairs and index registers
counted up and down. -/

namespace Sys2Proof.Machine

open Claims

/-! ### Flags written and then one word (R301 to R304) -/

section
variable {i : Instr} {bs : List Byte} {s : State} {n : Nat} {v : Word} {g : Flags} {src : XySource} {post : State → Prop}

theorem Completes.of_flags_setHl (hpost : ∀ t : State, t.hl = v → t.f = (s.writeFlags g src).f → post t)
    (hexec : exec i s = retire i false ((s.writeFlags g src).set16 .hl v) := by rfl) (hbytes : encode i = bs := by rfl)
    (hcost : cost [] i false = n := by rfl) : Completes i bs s n { regs := [.h, .l], flags := true } post :=
  .of_retire hexec hbytes hcost rfl rfl (((State.sameBut.refl _ s).writeFlags g src rfl).set16 .hl v (fun _ => id) id) fun _ =>
    hpost _ ((s.writeFlags g src).set16_hl_self v) rfl

theorem Completes.of_flags_setIdx {ii : Idx} (hpost : ∀ t : State, t.idx ii = v → t.f = (s.writeFlags g src).f → post t)
    (hexec : exec i s = retire i false ((s.writeFlags g src).setIdx ii v) := by rfl) (hbytes : encode i = bs := by rfl)
    (hcost : cost [] i false = n := by rfl) : Completes i bs s n { idx := [ii], flags := true } post :=
  .of_retire hexec hbytes hcost (State.setIdx_cycles _ ii v) (State.setIdx_params _ ii v)
    (((State.sameBut.refl _ s).writeFlags g src rfl).setIdx ii v (List.mem_singleton_self ii)) fun _ =>
    hpost _ (by simp) (by simp)

end

/-- Y and X from the high byte of a result in HL are those of H. -/
theorem xyOf_h_of_flags {s t : State} {g : Flags} {r : Word} (hr : t.hl = r) (hf : t.f = (s.writeFlags g (.ofByte (hiByte r))).f) :
    xyOf s t t.h := by
  have hh : hiByte r = t.h := hr ▸ hiByte_joinBytes t.h t.l
  exact hh ▸ xyOf_of_flags hf

theorem add16Effect_of_flags {s t : State} {a b r : Word} (hr : r = a + b) (hf : t.f = (s.add16Flags a b).f) :
    add16Effect s a b r t :=
  ⟨hr.trans (BitVec.add_def a b), flagsAre_of_flags hf, hr ▸ xyOf_of_flags hf⟩

theorem sbc16Flags_h (f : Flags) (a b : Word) (cin : Bool) :
    (sbc16Flags f a b cin).h = decide (a.toNat % 4096 < b.toNat % 4096 + cin.toNat) := by
  rw [sbc16Flags, decide_eq_decide, low12, low12]
  omega

theorem sbc16Flags_c (f : Flags) (a b : Word) (cin : Bool) : (sbc16Flags f a b cin).c = decide (a.toNat < b.toNat + cin.toNat) := by
  rw [sbc16Flags, decide_eq_decide, diff16]
  omega

/-- Settles O41: each form writes its flags and then the word they speak of, to HL or to the index register. -/
theorem wordArithmetic : Obligations.WordArithmetic := by
  refine ⟨fun s => ⟨fun rr => .of_flags_setHl fun _ => add16Effect_of_flags, fun ii =>
    ⟨.of_flags_setIdx fun _ => add16Effect_of_flags, .of_flags_setIdx fun _ => add16Effect_of_flags,
      .of_flags_setIdx fun _ => add16Effect_of_flags, .of_flags_setIdx fun _ => add16Effect_of_flags⟩⟩, fun s rr => ⟨?_, ?_⟩⟩
  · refine .of_flags_setHl (v := adc16 s.hl (s.get16 rr) s.f.c) fun t hr hf => ⟨hr, ?_, xyOf_h_of_flags hr hf⟩
    rw [hr]
    exact flagsAre_of_flags hf
  · refine .of_flags_setHl (v := sbc16 s.hl (s.get16 rr) s.f.c) fun t hr hf => ⟨hr, ?_, xyOf_h_of_flags hr hf⟩
    rw [hr, ← sbc16Flags_h s.f, ← sbc16Flags_c s.f]
    exact flagsAre_of_flags hf

/-! ### INC and DEC (R305 to R308) -/

theorem toNat_of_eq_add_one {v w : Word} (h : v = w + 1) : v.toNat = (w.toNat + 1) % 65536 := by
  rw [h, BitVec.toNat_add]
  rfl

theorem toNat_of_eq_sub_one {v w : Word} (h : v = w - 1) : v.toNat = (w.toNat + 65535) % 65536 := by
  rw [h, BitVec.toNat_sub, Nat.add_comm]
  rfl

/-- Settles O42: each form is one write of the word above or below the old one, and F is outside the frame of that write. -/
theorem wordIncDec : Obligations.WordIncDec := fun _ =>
  ⟨fun _ => .imp .of_set16 fun _ => toNat_of_eq_add_one, fun _ => .imp .of_set16 fun _ => toNat_of_eq_sub_one,
    fun _ => .imp .of_setIdx fun _ => toNat_of_eq_add_one, fun _ => .imp .of_setIdx fun _ => toNat_of_eq_sub_one⟩

end Sys2Proof.Machine
end

section
/-! PROOFS. The other statements of 45_rotate_bit.md: the rotates of A, the digit rotates, and the operations on one bit. -/

namespace Sys2Proof.Machine

open Claims

/-! ### RLCA, RRCA, RLA, RRA (R321 to R324) -/

theorem toNat_shiftLeft_or_bit0 (v : Byte) (b : Bool) : (v <<< 1 ||| bit0 b).toNat = v.toNat * 2 % 256 + b.toNat := by
  have hb := b.toNat_le
  rw [shiftLeft_or_bit0, BitVec.toNat_ofNat]
  omega

theorem toNat_shiftRight_or_bit7 (v : Byte) (b : Bool) : (v >>> 1 ||| bit7 b).toNat = v.toNat / 2 + 128 * b.toNat := by
  have hb := b.toNat_le
  have hv := v.isLt
  rw [shiftRight_or_bit7, BitVec.toNat_ofNat]
  omega

/-- A rotate of A, its result the number `m` and its lost bit `lost`. -/
theorem Completes.of_rotateA (op : RotOp) {i : Instr} {bs : List Byte} {s : State} {n m : Nat} {lost : Bool}
    (hres : (rot op s.a s.f.c).toNat = m) (hlost : rotLost op s.a = lost)
    (hexec : exec i s = retire i false (s.rotateA op) := by rfl) (hbytes : encode i = bs := by rfl)
    (hcost : cost [] i false = n := by rfl) :
    Completes i bs s n { regs := [.a], flags := true } fun t =>
      t.a.toNat = m ∧ flagsAre t s.f.s s.f.z false s.f.pv false lost ∧ xyOf s t t.a := by
  refine (Completes.of_flags_set8 (fun _ => id) hbytes hcost hexec).imp fun t ⟨ha, hf⟩ => ?_
  obtain ha : t.a = rot op s.a s.f.c := ha
  exact ⟨ha ▸ hres, hlost ▸ flagsAre_of_flags hf, ha ▸ xyOf_of_flags hf⟩

/-- Settles O43: a rotate to the left puts its bit 0 beside the doubled A, one to the right its bit 7 above the halved A. -/
theorem accumulatorRotates : Obligations.AccumulatorRotates := fun s =>
  ⟨.of_rotateA .rlc (toNat_getLsbD_seven s.a ▸ toNat_shiftLeft_or_bit0 _ _) (getLsbD_seven _),
    .of_rotateA .rrc (toNat_getLsbD_zero s.a ▸ toNat_shiftRight_or_bit7 _ _) (getLsbD_zero _),
    .of_rotateA .rl (toNat_shiftLeft_or_bit0 _ _) (getLsbD_seven _),
    .of_rotateA .rr (toNat_shiftRight_or_bit7 _ _) (getLsbD_zero _)⟩

/-! ### RLD and RRD (R334, R335) -/

theorem toNat_and_0x0F (v : Byte) : (v &&& 0x0F).toNat = v.toNat % 16 :=
  Nat.and_two_pow_sub_one_eq_mod v.toNat 4

theorem toNat_and_0xF0 (v : Byte) : (v &&& 0xF0).toNat = v.toNat / 16 * 16 := by
  revert v; decide

theorem toNat_shiftLeft_four (v : Byte) : (v <<< 4).toNat = v.toNat % 16 * 16 := by
  rw [BitVec.toNat_shiftLeft, Nat.shiftLeft_eq]
  omega

theorem toNat_shiftRight_four (v : Byte) : (v >>> 4).toNat = v.toNat / 16 :=
  Nat.shiftRight_eq_div_pow v.toNat 4

/-- Two digits joined are a number of two digits. -/
theorem toNat_or_of_digits {a b : Byte} {p q : Nat} (ha : a.toNat = p * 16) (hb : b.toNat = q) (hq : q < 16) :
    (a ||| b).toNat = p * 16 + q := by
  rw [BitVec.toNat_or, ha, hb, Nat.mul_comm]
  exact (Nat.two_pow_add_eq_or_of_lt (i := 4) hq p).symm

/-- A digit rotate: the byte `u` stored at HL, then `v` to A with its flags. -/
theorem Completes.of_poke_digitA {i : Instr} {bs : List Byte} {s : State} {n p q : Nat} {u v : Byte}
    (hexec : exec i s = retire i false ((s.poke s.hl u).digitA v)) (hu : u.toNat = p) (hv : v.toNat = q)
    (hbytes : encode i = bs := by rfl) (hcost : cost [] i false = n := by rfl) :
    Completes i bs s n { regs := [.a], flags := true, bytes := [s.hl] } fun t =>
      (t.peek s.hl).toNat = p ∧ t.a.toNat = q ∧ byteEffect s t.a t := by
  have hframe : s.sameBut { regs := [.a], flags := true, bytes := [s.hl] } ((s.poke s.hl u).digitA v) :=
    (((State.sameBut.refl _ s).poke s.hl u (List.mem_singleton_self _)).writeFlags _ _ rfl).set8 .a v (List.mem_singleton_self _)
  refine .of_retire hexec hbytes hcost rfl rfl hframe fun m => ⟨?_, hv, ?_, ?_⟩
  · exact (congrArg BitVec.toNat (s.peek_poke_same s.hl u)).trans hu
  · rw [← parity_eq_evenOnes]
    exact flagsAre_of_flags (g := byteFlags s.f v) rfl
  · exact xyOf_of_flags (g := byteFlags s.f v) rfl

/-- Settles O45: each byte written is two digits joined. -/
theorem digitRotates : Obligations.DigitRotates := by
  intro s h
  have hlt := (s.peek s.hl).isLt
  refine ⟨.of_poke_digitA (rotateDigitLeft_ok h) ?_ ?_, .of_poke_digitA (rotateDigitRight_ok h) ?_ ?_⟩
  · exact toNat_or_of_digits (toNat_shiftLeft_four _) (toNat_and_0x0F _) (by omega)
  · exact toNat_or_of_digits (toNat_and_0xF0 _) (toNat_shiftRight_four _) (by omega)
  · exact toNat_or_of_digits (toNat_shiftLeft_four _) (toNat_shiftRight_four _) (by omega)
  · exact toNat_or_of_digits (toNat_and_0xF0 _) (toNat_and_0x0F _) (by omega)

/-! ### BIT (R341, R347, R348) -/

theorem bitEffect_of_flags {s t : State} {n : BitVec 3} {v : Byte} {src : XySource} (ht : t.f = (s.bitTest n v src).f) :
    bitEffect s n v t :=
  flagsAre_of_flags ht

theorem exec_bitBMemHl_ok {s : State} {n : BitVec 3} (h : s.params.memFault = false) :
    exec (.bitBMemHl n) s = retire (.bitBMemHl n) false (s.bitTest n (s.peek s.hl) .drawn) :=
  show execBitBMemHl n s = _ by rw [execBitBMemHl, readByte_ok h]

/-- Settles O46: each form writes the flags of the byte it reads; the forms differ in where Y and X come from. -/
theorem bitTests : Obligations.BitTests := fun s n =>
  ⟨fun _ => .of_writeFlags fun _ ht => ⟨bitEffect_of_flags ht, xyOf_of_flags ht⟩, fun h =>
    ⟨.of_writeFlags (fun _ => bitEffect_of_flags) rfl rfl (exec_bitBMemHl_ok h), fun _ _ _ =>
      .of_writeFlags (fun _ ht => ⟨bitEffect_of_flags ht, xyOf_of_flags ht⟩) rfl rfl (bitMemIid_ok h)⟩⟩

/-! ### RES and SET (R349 to R356) -/

theorem getLsbD_one_shiftLeft (n : BitVec 3) (k : Nat) : ((1 : Byte) <<< n.toNat).getLsbD k = decide (n.toNat = k) := by
  have hn : n.toNat < 8 := n.isLt
  calc ((1 : Byte) <<< n.toNat).getLsbD k
    _ = (decide (n.toNat < 8) && decide (n.toNat = k)) := BitVec.getLsbD_twoPow n.toNat k
    _ = decide (n.toNat = k) := by rw [decide_eq_true hn, Bool.true_and]

theorem resBit_getLsbD (n : BitVec 3) (v : Byte) {k : Nat} (hk : k < 8) :
    (resBit n v).getLsbD k = (v.getLsbD k && !decide (n.toNat = k)) := by
  rw [resBit, BitVec.getLsbD_and, BitVec.getLsbD_not, getLsbD_one_shiftLeft, decide_eq_true hk, Bool.true_and]

theorem setBit_getLsbD (n : BitVec 3) (v : Byte) (k : Nat) :
    (setBit n v).getLsbD k = (v.getLsbD k || decide (n.toNat = k)) := by
  rw [setBit, BitVec.getLsbD_or, getLsbD_one_shiftLeft]

theorem bitGiven_resBit (n : BitVec 3) (v : Byte) : bitGiven n false v (resBit n v) :=
  ⟨by simp [resBit_getLsbD n v n.isLt], fun k hk hne => by simp [resBit_getLsbD n v hk, hne.symm]⟩

theorem bitGiven_setBit (n : BitVec 3) (v : Byte) : bitGiven n true v (setBit n v) :=
  ⟨by simp [setBit_getLsbD], fun k _ hne => by simp [setBit_getLsbD, hne.symm]⟩

section
variable {i : Instr} {bs : List Byte} {s : State} {m : Nat} {a : Word} {g : Byte → Byte} {n : BitVec 3} {b : Bool}
  (hg : ∀ v, bitGiven n b v (g v))
include hg

theorem Completes.of_bitReg {r : Reg8} (hexec : exec i s = retire i false (s.set8 r (g (s.get8 r))) := by rfl)
    (hbytes : encode i = bs := by rfl) (hcost : cost [] i false = m := by rfl) :
    Completes i bs s m { regs := [r] } fun t => bitGiven n b (s.get8 r) (t.get8 r) :=
  .imp (.of_set8 hbytes hcost hexec) fun _ ht => ht ▸ hg _

theorem Completes.of_bitMem (h : s.params.memFault = false)
    (hexec : exec i s = modifyByte g a s fun _ s => retire i false s := by rfl)
    (hbytes : encode i = bs := by rfl) (hcost : cost [] i false = m := by rfl) :
    Completes i bs s m { bytes := [a] } fun t => bitGiven n b (s.peek a) (t.peek a) :=
  .of_retire (hexec.trans (modifyByte_ok h)) hbytes hcost rfl rfl
    ((State.sameBut.refl _ s).poke a _ (List.mem_singleton_self a)) fun _ => (s.peek_poke_same a _).symm ▸ hg _

theorem Completes.of_bitMemReg {r : Reg8} (h : s.params.memFault = false)
    (hexec : exec i s = modifyByte g a s fun v s => retire i false (s.set8 r v) := by rfl)
    (hbytes : encode i = bs := by rfl) (hcost : cost [] i false = m := by rfl) :
    Completes i bs s m { regs := [r], bytes := [a] } fun t => bitGiven n b (s.peek a) (t.peek a) ∧ t.get8 r = t.peek a :=
  .of_retire (hexec.trans (modifyByte_ok h)) hbytes hcost (State.set8_cycles _ _ _) (State.set8_params _ _ _)
    (((State.sameBut.refl _ s).poke a _ (List.mem_singleton_self a)).set8 r _ (List.mem_singleton_self r)) fun _ =>
    ⟨by simp [hg], by simp⟩

end

/-- Settles O47: each form replaces a byte by what RES or SET makes of it; F is outside its frame. -/
theorem bitWrites : Obligations.BitWrites := fun s n =>
  have hres := bitGiven_resBit n
  have hset := bitGiven_setBit n
  ⟨fun _ => .of_bitReg hres, fun _ => .of_bitReg hset, fun h =>
    ⟨.of_bitMem hres h, .of_bitMem hset h, fun _ _ =>
      ⟨.of_bitMem hres h, .of_bitMem hset h, fun _ => ⟨.of_bitMemReg hres h, .of_bitMemReg hset h⟩⟩⟩⟩

end Sys2Proof.Machine
end

section
/-! PROOFS. The calls and returns of 46_control.md: one lemma for the push and jump of a call, one for each way PC is popped, and one for
the condition that fails. -/

namespace Sys2Proof.Machine

open Claims

theorem restartAddress_eq (y : BitVec 3) : restartAddress y = BitVec.ofNat 16 (8 * y.toNat) :=
  congrArg _ (Nat.mul_comm _ _)

section
variable {i : Instr} {bs : List Byte} {s : State} {n : Nat} {taken : Bool}

/-- An instruction that only pays its cost: a call or return whose condition fails (R369, R371). -/
theorem Completes.of_unchanged (hexec : exec i s = retire i taken s) (hbytes : encode i = bs) (hcost : cost [] i taken = n) :
    Completes i bs s n {} fun _ => True :=
  .of_retire hexec hbytes hcost rfl rfl (.refl _ s) fun _ => trivial

variable (h : s.params.memFault = false)
include h

/-- PC is pushed and `a` jumped to (R368, R369, R378). -/
theorem Completes.of_callTo {a : Word} (hexec : exec i s = callTo a s fun s => retire i taken s) (hbytes : encode i = bs)
    (hcost : cost [] i taken = n) :
    Completes i bs s n { pc := true, sp := true, bytes := wordBytes (s.sp - 2) } fun t =>
      t.pc = a ∧ t.sp = s.sp - 2 ∧ holdsWord t (s.sp - 2) s.pc :=
  .of_retire (hexec.trans (callTo_ok h)) hbytes hcost (s.pushed_cycles s.pc) (s.pushed_params s.pc)
    (((State.sameBut.refl _ s).pushed s.pc rfl (mem_wordBytes _) (succ_mem_wordBytes _)).jump a rfl) fun _ =>
    ⟨rfl, rfl, holdsWord_of_pushed rfl⟩

/-- PC is popped (R370, R371). -/
theorem Completes.of_popPc (hexec : exec i s = popPc s fun s => retire i taken s) (hbytes : encode i = bs)
    (hcost : cost [] i taken = n) :
    Completes i bs s n { pc := true, sp := true } fun t => t.pc = s.peekWord s.sp ∧ t.sp = s.sp + 2 :=
  .of_retire (hexec.trans (popPc_ok h)) hbytes hcost rfl rfl (((State.sameBut.refl _ s).popped rfl).jump _ rfl) fun _ => ⟨rfl, rfl⟩

/-- PC is popped and IFF1 restored from IFF2 (R381, R382). -/
theorem Completes.of_returnFromInterrupt (hexec : exec i s = returnFromInterrupt s fun s => retire i taken s)
    (hbytes : encode i = bs) (hcost : cost [] i taken = n) :
    Completes i bs s n { pc := true, sp := true, iff1 := true } fun t =>
      (t.pc = s.peekWord s.sp ∧ t.sp = s.sp + 2) ∧ t.iff1 = s.iff2 :=
  .of_retire (hexec.trans (returnFromInterrupt_ok h)) hbytes hcost rfl rfl
    ((((State.sameBut.refl _ s).popped rfl).jump (s.peekWord s.sp) rfl).setIff1 s.iff2 rfl) fun _ => ⟨⟨rfl, rfl⟩, rfl⟩

end

/-- Settles O49: CALL, CALL cc taken and RST are one push and jump; CALL cc not taken only pays its cost. -/
theorem calls : Obligations.Calls := fun _ h =>
  ⟨fun _ => .of_callTo h rfl rfl rfl, fun _ _ hcc => .of_callTo h (if_pos hcc) rfl rfl,
    fun _ _ hcc => .of_unchanged (if_neg (ne_true_of_eq_false hcc)) rfl rfl, fun y => restartAddress_eq y ▸ .of_callTo h rfl rfl rfl⟩

/-- Settles O50: RET and RET cc taken pop PC, RET cc not taken only pays its cost, and the others also restore IFF1. -/
theorem returns : Obligations.Returns := by
  intro s h
  refine ⟨.of_popPc h rfl rfl rfl, fun _ hcc => .of_popPc h (if_pos hcc) rfl rfl,
    fun _ hcc => .of_unchanged (if_neg (ne_true_of_eq_false hcc)) rfl rfl, fun i y hi => ?_⟩
  obtain ⟨rfl, rfl⟩ | ⟨rfl, rfl⟩ | ⟨rfl, -⟩ := hi <;> exact .of_returnFromInterrupt h rfl rfl rfl

end Sys2Proof.Machine
end

section
/-! PROOFS. The statements of 47_cpu_control_io.md: one lemma for each way a control, special-register or I/O instruction writes the
state, and one iteration of the block input and output, without and with the repeat. -/

namespace Sys2Proof.Machine

open Claims

section
variable {i : Instr} {bs : List Byte} {s : State} {n : Nat} (hbytes : encode i = bs := by rfl) (hcost : cost [] i false = n := by rfl)
include hbytes hcost

/-! ### Control and the special registers (R402 to R408) -/

theorem Completes.of_setIm {m : BitVec 2} (hexec : exec i s = retire i false (s.setIm m) := by rfl) :
    Completes i bs s n { im := true } fun t => t.im = m :=
  .of_retire hexec hbytes hcost rfl rfl ((State.sameBut.refl _ s).setIm m rfl) fun _ => rfl

/-- A takes the byte `v` of I or R, PV takes IFF2 (R406, R408). -/
theorem Completes.of_loadSpecial {v : Byte} (hexec : exec i s = retire i false (s.loadSpecial v) := by rfl) :
    Completes i bs s n { regs := [.a], flags := true } fun t =>
      t.a = v ∧ flagsAre t v.msb (v == 0) false s.iff2 false s.f.c ∧ xyOf s t v :=
  .imp (.of_flags_set8 (r := .a) (fun _ => id) hbytes hcost hexec) fun _ ⟨ha, hf⟩ => ⟨ha, flagsAre_of_flags hf, xyOf_of_flags hf⟩

/-! ### IN and OUT (R411 to R416) -/

theorem Completes.of_writePort {p : Word} {v : Byte} (hexec : exec i s = retire i false (s.writePort p v) := by rfl) :
    Completes i bs s n { io := true } fun t => t.io = s.io ++ [.output p v] :=
  .of_retire hexec hbytes hcost rfl rfl ((State.sameBut.refl _ s).writePort p v rfl) fun _ => rfl

end

/-- What IN r,(C) and IN (C) share: the event and the flags of the byte read from port BC (R413, R414). -/
theorem inputBc_effect {s t : State} (hio : t.io = s.inputBc.io) (hf : t.f = s.inputBc.f) :
    t.io = s.io ++ [.input s.bc (s.portValue s.bc)] ∧ byteEffect s (s.portValue s.bc) t := by
  refine ⟨hio, ?_, xyOf_of_flags (s := s.readPort s.bc) hf⟩
  rw [← parity_eq_evenOnes]
  exact flagsAre_of_flags hf

theorem State.sameBut_inputBc {w : Touch} (s : State) (hio : w.io = true) (hf : w.flags = true) : s.sameBut w s.inputBc :=
  ((State.sameBut.refl _ s).readPort s.bc hio).writeFlags _ _ hf

/-! ### The statements on single instructions -/

/-- Settles O51: each instruction writes the latches its frame names, or nothing. -/
theorem cpuControl : Obligations.CpuControl := by
  refine ⟨fun s => ⟨.of_unchanged rfl rfl rfl, ?halt, ?di, ?ei, .of_setIm, fun _ _ => .of_setIm, .of_setIm, .of_setIm, .of_setIm,
    .of_setIm⟩, fun s => ⟨fun ii => ?lonePrefix, fun op _ => ?unmappedEd⟩⟩
  case halt => exact .of_retire (t := s.enterHalt) rfl rfl rfl rfl rfl ((State.sameBut.refl _ s).setHalted true rfl) fun _ => rfl
  case di =>
    exact .of_retire (t := s.disableInterrupts) rfl rfl rfl rfl rfl
      (((State.sameBut.refl _ s).setIff1 false rfl).setIff2 false rfl) fun _ => ⟨rfl, rfl⟩
  case ei =>
    exact .of_retire (t := s.enableInterrupts) rfl rfl rfl rfl rfl
      ((((State.sameBut.refl _ s).setIff1 true rfl).setIff2 true rfl).setIntBlock .afterEI rfl) fun _ => ⟨rfl, rfl, rfl⟩
  case lonePrefix =>
    exact .of_retire (t := s.blockAfterLoneByte) rfl rfl rfl rfl rfl ((State.sameBut.refl _ s).setIntBlock .afterPrefix rfl) fun _ => rfl
  case unmappedEd =>
    exact .of_retire (t := s.reportUnknown op) rfl rfl rfl rfl rfl
      ((State.sameBut.refl _ s).report (.unknownOpcode (s.pc - 2) 0xED op) rfl) fun _ => rfl

/-- Settles O52: I or R takes A, or A takes I or R with the flags of the byte. -/
theorem specialRegisterLoads : Obligations.SpecialRegisterLoads := fun s =>
  ⟨.of_retire (t := s.setI s.a) rfl rfl rfl rfl rfl ((State.sameBut.refl _ s).setI s.a rfl) fun _ => rfl,
    .of_retire (t := s.setR s.a) rfl rfl rfl rfl rfl ((State.sameBut.refl _ s).setR s.a rfl) fun _ => rfl,
    .of_loadSpecial, .of_loadSpecial⟩

/-- Settles O53: an output is one event; an input is one event and the byte to a register, with flags when the port is BC. -/
theorem inputAndOutput : Obligations.InputAndOutput := by
  refine fun s => ⟨fun n => ?inA, fun _ => .of_writePort, fun r => ?inR, ?inFlags, fun _ => .of_writePort, .of_writePort⟩
  case inA =>
    exact .of_retire (t := (s.readPort (s.portA n)).set8 .a (s.portValue (s.portA n))) rfl rfl rfl rfl rfl
      (((State.sameBut.refl _ s).readPort _ rfl).set8 .a _ (List.mem_singleton_self _)) fun _ => ⟨rfl, rfl⟩
  case inR =>
    exact .of_retire (t := s.inputBc.set8 r (s.portValue s.bc)) rfl rfl rfl (State.set8_cycles _ r _) (State.set8_params _ r _)
      ((s.sameBut_inputBc rfl rfl).set8 r _ (List.mem_singleton_self r)) fun _ => ⟨by simp, inputBc_effect (by simp) (by simp)⟩
  case inFlags => exact .of_retire (t := s.inputBc) rfl rfl rfl rfl rfl (s.sameBut_inputBc rfl rfl) fun _ => inputBc_effect rfl rfl

/-! ### Block input and output (R417 to R424) -/

theorem State.sameBut.blockIoDone {w : Touch} {s t : State} (h : s.sameBut w t) (hw : w.flags = true) : s.sameBut w t.blockIoDone :=
  (h.drawn (t.draws + 3)).writeFlags _ _ hw

/-- The pointer and the flags a block I/O iteration ends with, in a state `t` where B has fallen and C is still that of `s`. -/
theorem State.blockIoDone_effect {s t : State} {dir : Direction} (hb : t.b = s.b - 1) (hc : t.f.c = s.f.c) :
    (t.set16 .hl (dir.move s.hl)).blockIoDone.b = s.b - 1 ∧ (t.set16 .hl (dir.move s.hl)).blockIoDone.hl = s.hl + dir.offset ∧
      Claims.blockIoFlags s (t.set16 .hl (dir.move s.hl)).blockIoDone := by
  have hhl : (t.set16 .hl (dir.move s.hl)).blockIoDone.hl = dir.move s.hl := joinBytes_hiByte_loByte (dir.move s.hl)
  exact ⟨hb, hhl.trans (dir.move_eq_add s.hl), congrArg (· == 0) hb, rfl, hc⟩

theorem State.inputDone_effect (s : State) (dir : Direction) : inputEffect s dir.offset (s.inputDone dir) := by
  obtain ⟨hb, hhl, hflags⟩ := State.blockIoDone_effect (s := s) (dir := dir)
    (t := ((s.readPort s.bc).poke s.hl (s.portValue s.bc)).set8 .b (s.b - 1)) rfl rfl
  exact ⟨hb, hhl, (s.readPort s.bc).peek_poke_same s.hl _, rfl, hflags⟩

theorem State.outputDone_effect (s : State) (dir : Direction) : outputEffect s dir.offset (s.outputDone dir (s.peek s.hl)) := by
  obtain ⟨hb, hhl, hflags⟩ := State.blockIoDone_effect (s := s) (dir := dir)
    (t := (s.set8 .b (s.b - 1)).writePort (joinBytes (s.b - 1) s.c) (s.peek s.hl)) rfl rfl
  exact ⟨hb, hhl, rfl, hflags⟩

theorem State.sameBut_inputDone (s : State) (dir : Direction) : s.sameBut (inputTouch s) (s.inputDone dir) :=
  (State.sameBut.refl _ s).readPort s.bc rfl |>.poke s.hl _ (List.mem_singleton_self _) |>.set8 .b _ List.mem_cons_self
    |>.set16 .hl _ (by simp [pairTouch, inputTouch]) nofun |>.blockIoDone rfl

theorem State.sameBut_outputDone (s : State) (dir : Direction) (v : Byte) : s.sameBut outputTouch (s.outputDone dir v) :=
  (State.sameBut.refl _ s).set8 .b _ List.mem_cons_self |>.writePort _ v rfl |>.set16 .hl _ (by decide) nofun |>.blockIoDone rfl

section
variable {i : Instr} {bs : List Byte} {s : State} (dir : Direction) (h : s.params.memFault = false) (hbytes : encode i = bs := by rfl)
  (hlast : cost [] i false = 16 := by rfl)
include h hbytes hlast

theorem Completes.of_inputBlock (hexec : exec i s = inputBlock dir s fun s => retire i false s := by rfl) :
    Completes i bs s 16 (inputTouch s) (inputEffect s dir.offset) :=
  .of_retire (hexec.trans (inputBlock_ok h)) hbytes hlast rfl rfl (s.sameBut_inputDone dir) fun _ => s.inputDone_effect dir

theorem Completes.of_outputBlock (hexec : exec i s = outputBlock dir s fun s => retire i false s := by rfl) :
    Completes i bs s 16 outputTouch (outputEffect s dir.offset) :=
  .of_retire (hexec.trans (outputBlock_ok h)) hbytes hlast rfl rfl (s.sameBut_outputDone dir _) fun _ => s.outputDone_effect dir

variable (hrepeat : cost [] i true = 21 := by rfl)
include hrepeat

theorem Completes.of_inputBlock_repeat (hexec : exec i s = inputBlock dir s fun s => repeatWhile i (s.b != 0) s := by rfl) :
    Completes i bs s (if s.b - 1 != 0 then 21 else 16) { inputTouch s with pc := true } fun t =>
      inputEffect s dir.offset t ∧ repeats s (s.b - 1 != 0) t :=
  .of_repeatWhile (hexec.trans (inputBlock_ok h)) hbytes hrepeat hlast rfl rfl rfl (s.sameBut_inputDone dir) fun _ _ =>
    s.inputDone_effect dir

theorem Completes.of_outputBlock_repeat (hexec : exec i s = outputBlock dir s fun s => repeatWhile i (s.b != 0) s := by rfl) :
    Completes i bs s (if s.b - 1 != 0 then 21 else 16) { outputTouch with pc := true } fun t =>
      outputEffect s dir.offset t ∧ repeats s (s.b - 1 != 0) t :=
  .of_repeatWhile (hexec.trans (outputBlock_ok h)) hbytes hrepeat hlast rfl rfl rfl (s.sameBut_outputDone dir _) fun _ _ =>
    s.outputDone_effect dir

end

/-- Settles O54: input and output are each the two directions, without and with the repeat. -/
theorem blockIo : Obligations.BlockIo :=
  ⟨fun _ h => ⟨.of_inputBlock .up h, .of_inputBlock .down h, .of_inputBlock_repeat .up h, .of_inputBlock_repeat .down h⟩,
    fun _ h => ⟨.of_outputBlock .up h, .of_outputBlock .down h, .of_outputBlock_repeat .up h, .of_outputBlock_repeat .down h⟩⟩

end Sys2Proof.Machine
end

section
/-! PROOFS. The statements of 60_exceptions.md on interrupts: the check condition by condition, what an acceptance saves and changes, and
the way back from it. -/

namespace Sys2Proof.Machine

open Claims

/-! ### Which branch the check takes (R434 to R437, R441) -/

theorem State.intAccepted_iff (s : State) :
    s.intAccepted = true ↔ s.iff1 = true ∧ s.intPending = true ∧ ¬(s.intBlock = .afterEI ∧ s.params.eiDelay = true) := by
  cases hdelay : s.params.eiDelay <;> simp [State.intAccepted, hdelay, and_assoc]

/-- IM, when legal, selects the fixed target or the table entry (R443). -/
theorem State.im_cases {s : State} (him : s.imLegal = true) : (s.im = 0 ∨ s.im = 1) ∨ s.im = 2 := by
  have h : ∀ m : BitVec 2, (m != 3) = true → (m = 0 ∨ m = 1) ∨ m = 2 := by decide
  exact h s.im him

section
variable {s : State}

theorem interruptCheck_of_afterPrefix (wasHalted : Bool) (hblock : s.intBlock = .afterPrefix) : interruptCheck wasHalted s = .next s :=
  if_pos hblock

theorem interruptCheck_of_quiet (hnmi : s.nmiPending = false) (hint : s.intAccepted = false) : interruptCheck false s = .next s := by
  simp [interruptCheck, hnmi, hint]

variable (wasHalted : Bool) (hblock : s.intBlock ≠ .afterPrefix)
include hblock

theorem interruptCheck_of_nmi (hmem : s.params.memFault = false) (hnmi : s.nmiPending = true) :
    interruptCheck wasHalted s = .next s.nmiTaken := by
  rw [interruptCheck, if_neg hblock, if_pos hnmi, acceptNmi_ok hmem]

theorem interruptCheck_of_int (hnmi : s.nmiPending = false) (hint : s.intAccepted = true) :
    interruptCheck wasHalted s = acceptInt s := by
  rw [interruptCheck, if_neg hblock, if_neg (ne_true_of_eq_false hnmi), if_pos hint]

end

/-! ### What an acceptance leaves (R439, R442 to R446) -/

section
variable (s : State) (a : Word) (price : Nat)

@[simp] theorem State.nmiTaken_sp : s.nmiTaken.sp = s.sp - 2 := by simp [State.nmiTaken]
@[simp] theorem State.nmiTaken_pc : s.nmiTaken.pc = 0x0066 := by simp [State.nmiTaken]
@[simp] theorem State.nmiTaken_iff1 : s.nmiTaken.iff1 = false := by simp [State.nmiTaken]
@[simp] theorem State.nmiTaken_iff2 : s.nmiTaken.iff2 = s.iff1 := by simp [State.nmiTaken]
@[simp] theorem State.nmiTaken_halted : s.nmiTaken.halted = false := by simp [State.nmiTaken]
@[simp] theorem State.nmiTaken_intPending : s.nmiTaken.intPending = s.intPending := by simp [State.nmiTaken]
@[simp] theorem State.nmiTaken_nmiPending : s.nmiTaken.nmiPending = false := by simp [State.nmiTaken]
@[simp] theorem State.nmiTaken_cycles : s.nmiTaken.cycles = s.cycles + BitVec.ofNat 64 (nmiCost s.params.costs) := by
  simp [State.nmiTaken]
theorem State.nmiTaken_mem : s.nmiTaken.mem = (s.pushed s.pc).mem := rfl

@[simp] theorem State.intTaken_sp : (s.intTaken a price).sp = s.sp - 2 := by simp [State.intTaken, State.intEntered]
@[simp] theorem State.intTaken_pc : (s.intTaken a price).pc = a := by simp [State.intTaken]
@[simp] theorem State.intTaken_iff2 : (s.intTaken a price).iff2 = s.iff2 := by simp [State.intTaken, State.intEntered]
@[simp] theorem State.intTaken_cycles : (s.intTaken a price).cycles = s.cycles + BitVec.ofNat 64 price := by
  simp [State.intTaken, State.intEntered]
theorem State.intTaken_mem : (s.intTaken a price).mem = (s.pushed s.pc).mem := rfl

end

theorem State.intAccept_vectored {s : State} (him : s.im = 2) :
    s.intAccept = s.intTaken ((s.pushed s.pc).peekWord s.vectorEntry) (mode2Cost s.params.costs) := by
  rw [State.intAccept, him]; rfl

/-- With a legal IM a maskable acceptance is dispatched, at one of two costs. -/
theorem State.intAccept_of_imLegal {s : State} (him : s.imLegal = true) :
    ∃ a, ∃ price ∈ [mode1Cost s.params.costs, mode2Cost s.params.costs], s.intAccept = s.intTaken a price := by
  obtain hfixed | hvectored := State.im_cases him
  · exact ⟨_, _, List.mem_cons_self, State.intAccept_fixed hfixed⟩
  · exact ⟨_, _, List.mem_cons_of_mem _ (List.mem_singleton_self _), State.intAccept_vectored hvectored⟩

/-- With IM = 3 a maskable acceptance dispatches nothing (R446). -/
theorem acceptInt_of_invalid {s : State} (him : s.im = 3) : acceptInt s =
    .next { s with halted := false, iff1 := false, intPending := false, diag := s.diag ++ [.invalidInterruptMode 3] } := by
  rw [acceptInt, him]
  simp [State.report]

/-- Whatever IM is, a maskable acceptance clears its pending bit, IFF1 and halted. -/
theorem State.intAccept_clears (s : State) :
    s.intAccept.intPending = false ∧ s.intAccept.iff1 = false ∧ s.intAccept.halted = false ∧
      s.intAccept.nmiPending = s.nmiPending := by
  unfold State.intAccept
  split <;> simp [State.intTaken, State.intInvalid, State.intEntered]

/-! ### Frames of an acceptance -/

theorem State.sameBut.restoreNmiPending {w : Touch} {s t : State} (h : s.sameBut w t) :
    s.sameBut w { t with nmiPending := s.nmiPending } := by
  obtain ⟨hregs, hidx, hsp, hpc, hf, haf, hbank, hi, hr, hiff1, hiff2, him, hhalted, hblock, hio, hdiag, hint, -, hparams, hmem⟩ := h
  exact ⟨fun q hq => (by cases q <;> rfl : _ = t.get8 q).trans (hregs q hq),
    fun jj hj => (by cases jj <;> rfl : _ = t.idx jj).trans (hidx jj hj), hsp, hpc, hf, haf, hbank, hi, hr, hiff1, hiff2, him,
    hhalted, hblock, hio, hdiag, hint, rfl, hparams, hmem⟩

theorem State.sameBut.restoreIntPending {w : Touch} {s t : State} (h : s.sameBut w t) :
    s.sameBut w { t with intPending := s.intPending } := by
  obtain ⟨hregs, hidx, hsp, hpc, hf, haf, hbank, hi, hr, hiff1, hiff2, him, hhalted, hblock, hio, hdiag, -, hnmi, hparams, hmem⟩ := h
  exact ⟨fun q hq => (by cases q <;> rfl : _ = t.get8 q).trans (hregs q hq),
    fun jj hj => (by cases jj <;> rfl : _ = t.idx jj).trans (hidx jj hj), hsp, hpc, hf, haf, hbank, hi, hr, hiff1, hiff2, him,
    hhalted, hblock, hio, hdiag, rfl, hnmi, hparams, hmem⟩

/-- The frame of a push, a jump and a cost, as every dispatched acceptance ends. -/
theorem State.sameBut.dispatched {w : Touch} {s t : State} (h : s.sameBut w t) (hsp : t.sp = s.sp) (v a : Word) (price : Nat)
    (hwsp : w.sp = true) (hwpc : w.pc = true) (hbytes : w.bytes = wordBytes (s.sp - 2)) :
    s.sameBut w (((t.pushed v).jump a).spend price) :=
  ((h.pushed v hwsp (hbytes ▸ hsp ▸ mem_wordBytes _) (hbytes ▸ hsp ▸ succ_mem_wordBytes _)).jump a hwpc).spend price

theorem State.sameBut_nmiTaken (s : State) :
    s.sameBut { sp := true, pc := true, iff1 := true, iff2 := true, halted := true, bytes := wordBytes (s.sp - 2) }
      { s.nmiTaken with nmiPending := s.nmiPending } :=
  ((((State.sameBut.refl _ s).setHalted false rfl).setIff2 s.iff1 rfl).setIff1 false rfl).dispatched rfl s.pc 0x0066 _ rfl rfl rfl
    |>.restoreNmiPending

theorem State.sameBut_intTaken (s : State) (a : Word) (price : Nat) :
    s.sameBut { sp := true, pc := true, iff1 := true, halted := true, bytes := wordBytes (s.sp - 2) }
      { s.intTaken a price with intPending := s.intPending } :=
  (((State.sameBut.refl _ s).setHalted false rfl).setIff1 false rfl).dispatched rfl s.pc a price rfl rfl rfl
    |>.restoreIntPending

/-- Settles O55: the check takes its second branch, and NMI acceptance is a chain of updates its frame allows. -/
theorem nmiAcceptance : Obligations.NmiAcceptance := by
  intro s wasHalted hmem hnmi hblock
  exact ⟨s.nmiTaken, interruptCheck_of_nmi wasHalted hblock hmem hnmi, s.nmiTaken_halted, s.nmiTaken_iff2, s.nmiTaken_iff1,
    s.nmiTaken_sp, holdsWord_of_pushed s.nmiTaken_mem, s.nmiTaken_pc, s.nmiTaken_nmiPending,
    ⟨s.nmiTaken_cycles, fun hc => by rw [hc]; rfl⟩, s.sameBut_nmiTaken⟩

/-- Settles O56: in a legal mode the acceptance is dispatched to its mode's target, at its mode's cost; with IM = 3 it is only reported. -/
theorem maskableAcceptance : Obligations.MaskableAcceptance := by
  refine ⟨fun s wasHalted hmem hnmi hiff hint hblock hdelay him => ?_, fun s wasHalted hnmi hiff hint hblock him => ?_⟩
  · have hcheck : interruptCheck wasHalted s = .next s.intAccept :=
      (interruptCheck_of_int wasHalted hblock hnmi (s.intAccepted_iff.mpr ⟨hiff, hint, hdelay⟩)).trans (acceptInt_ok hmem)
    have hfixed (h : s.im = 0 ∨ s.im = 1) :
        s.intAccept.pc = 0x0038 ∧ addsCost s s.intAccept (mode1Cost s.params.costs) 13 := by
      rw [State.intAccept_fixed h]
      exact ⟨s.intTaken_pc _ _, s.intTaken_cycles _ _, fun hc => by rw [hc]; rfl⟩
    have hvectored (h : s.im = 2) : s.intAccept.pc = s.intAccept.peekWord (joinBytes s.i s.params.deviceVector) ∧
        addsCost s s.intAccept (mode2Cost s.params.costs) 19 := by
      rw [State.intAccept_vectored h, State.peekWord_of_mem (s.intTaken_mem _ _), State.intTaken_pc]
      exact ⟨rfl, s.intTaken_cycles _ _, fun hc => by rw [hc]; rfl⟩
    obtain ⟨hpending, hiff1, hrun, -⟩ := s.intAccept_clears
    obtain ⟨a, price, -, htaken⟩ := State.intAccept_of_imLegal him
    exact ⟨s.intAccept, hcheck, hrun, hiff1, by rw [htaken, State.intTaken_sp],
      holdsWord_of_pushed (by rw [htaken, State.intTaken_mem]), hpending, hfixed, hvectored, htaken ▸ s.sameBut_intTaken a price⟩
  · have haccepted : s.intAccepted = true := State.intAccepted_of_unblocked hblock hiff hint
    rw [interruptCheck_of_int wasHalted (by simp [hblock]) hnmi haccepted, acceptInt_of_invalid him]

/-! ### The boundaries (R436, R437) -/

/-- A running step whose instruction completes without a jump is the check in a state past it, with the pending bits as they were. -/
theorem step_of_completes {s : State} {i : Instr} {bs : List Byte} {n : Nat} {w : Touch} {post : State → Prop}
    (hrun : s.halted = false) (hmem : s.params.memFault = false) (hi : s.fetched = i)
    (h : Completes i bs (s.unblocked.advance i) n w post) (hwpc : w.pc = false) :
    ∃ u, step s = interruptCheck false u ∧ post u ∧ u.pc = s.pc + BitVec.ofNat 16 i.length ∧ u.intPending = s.intPending ∧
      u.nmiPending = s.nmiPending ∧ u.params = s.params := by
  subst hi
  obtain ⟨-, u, hexec, hpost, hframe, -⟩ := h
  obtain ⟨-, -, -, hpc, -, -, -, -, -, -, -, -, -, -, -, -, hint, hnmi, hparams, -⟩ := hframe
  have hfetch : step s = andThen (exec s.fetched (s.unblocked.advance s.fetched)) (interruptCheck false) :=
    (step_running s hrun).trans (fetch_ok (s := s.unblocked) hmem)
  refine ⟨u, by rw [hfetch, hexec, andThen_of_next], hpost, ?_⟩
  simpa [State.unblocked] using And.intro (hpc hwpc) ⟨hint, hnmi, hparams⟩

theorem State.fetched_of_ei {s : State} (h : s.peek s.pc = 0xFB) : s.fetched = .ei := by
  rw [State.fetched, h]; rfl

theorem State.fetched_of_lonePrefix {s : State} {ii : Idx} (h : s.peek s.pc = ii.byte) (h1 : isIndexed (s.peek (s.pc + 1)) = false) :
    s.fetched = .lonePrefix ii := by
  rw [State.fetched, h, decodeBytes_idx, decodeIdx_eq_lonePrefix_iff, h1]

theorem State.not_intAccepted_of_eiDelay {s : State} (hblock : s.intBlock = .afterEI) (hdelay : s.params.eiDelay = true) :
    s.intAccepted = false := by
  simp [State.intAccepted, hblock, hdelay]

/-- Settles O57: the check branch by branch, and the two steps that end at a boundary. -/
theorem interruptBoundaries : Obligations.InterruptBoundaries := by
  refine ⟨fun s => interruptCheck_of_afterPrefix false, fun s hblock hdelay hnmi => ?afterEi, fun s hblock hmem hnmi => ?nmi,
    fun s hblock hdelay hmem hnmi hiff hint him => ?noDelay, fun s hnmi hint => ?masked, fun s hrun hmem hdelay hnmi hpeek => ?eiStep,
    fun s hrun hmem hpeek hnext => ?prefixStep⟩
  case afterEi => exact interruptCheck_of_quiet hnmi (State.not_intAccepted_of_eiDelay hblock hdelay)
  case nmi => exact ⟨s.nmiTaken, interruptCheck_of_nmi false (by simp [hblock]) hmem hnmi, s.nmiTaken_pc, s.nmiTaken_nmiPending⟩
  case noDelay =>
    have haccepted : s.intAccepted = true := s.intAccepted_iff.mpr ⟨hiff, hint, fun h => by simp [hdelay] at h⟩
    obtain ⟨hpending, hiff1, -, -⟩ := s.intAccept_clears
    refine ⟨s.intAccept, (interruptCheck_of_int false (by simp [hblock]) hnmi haccepted).trans (acceptInt_ok hmem), hpending, hiff1, ?_⟩
    obtain hfixed | hvectored := State.im_cases him
    · exact .inr (by rw [State.intAccept_fixed hfixed, State.intTaken_pc])
    · exact .inl hvectored
  case masked => exact interruptCheck_of_quiet hnmi (State.not_intAccepted hint)
  case eiStep =>
    obtain ⟨hcontrol, -⟩ := cpuControl
    obtain ⟨-, -, -, hei, -⟩ := hcontrol (s.unblocked.advance .ei)
    obtain ⟨u, hstep, ⟨hiff1, -, hblock⟩, hpc, huint, hunmi, hparams⟩ :=
      step_of_completes hrun hmem (State.fetched_of_ei hpeek) hei rfl
    have hquiet : u.intAccepted = false := State.not_intAccepted_of_eiDelay hblock (hparams ▸ hdelay)
    exact ⟨u, hstep.trans (interruptCheck_of_quiet (hunmi.trans hnmi) hquiet), hpc, hiff1, huint⟩
  case prefixStep =>
    obtain ⟨-, hcontrol⟩ := cpuControl
    obtain ⟨hprefix, -⟩ := hcontrol (s.unblocked.advance (.lonePrefix .ix))
    obtain ⟨u, hstep, hblock, hpc, huint, hunmi, -⟩ :=
      step_of_completes hrun hmem (State.fetched_of_lonePrefix (ii := .ix) hpeek hnext) (hprefix .ix) rfl
    exact ⟨u, hstep.trans (interruptCheck_of_afterPrefix false hblock), hpc, hunmi, huint⟩

/-! ### The way back (R381, R382, R440, R449) -/

/-- RETN or RETI from the stack pointer and the memory an acceptance left resumes where it came from, with IFF1 from IFF2. -/
theorem exec_return_of_pushed {i : Instr} {s t : State} (hi : i = .retn ∨ i = .reti) (hsp : t.sp = s.sp - 2)
    (hmem : t.mem = (s.pushed s.pc).mem) (h : t.params.memFault = false) :
    ∃ u, exec i t = .next u ∧ u.pc = s.pc ∧ u.sp = s.sp ∧ u.iff1 = t.iff2 := by
  have hexec : exec i t = pop16 t fun v s => retire i false { s with pc := v, iff1 := s.iff2 } := by
    obtain rfl | rfl := hi <;> rfl
  obtain ⟨n, e⟩ := exec_pop_of_pushed (g := fun v s => { s with pc := v, iff1 := s.iff2 }) hexec hsp hmem h
  exact ⟨_, e, rfl, rfl, rfl⟩

/-- An acceptance leaves SP and memory as a push of PC does, and IFF2 as the interrupted IFF1. -/
theorem interruptCheck_saves {s : State} (hmem : s.params.memFault = false) (hiff : s.iffLegal = true) (him : s.imLegal = true)
    (hblock : s.intBlock = .none) (hpending : s.nmiPending = true ∨ (s.iff1 = true ∧ s.intPending = true)) :
    ∃ t, interruptCheck false s = .next t ∧ t.sp = s.sp - 2 ∧ t.mem = (s.pushed s.pc).mem ∧ t.iff2 = s.iff1 := by
  have hprefix : s.intBlock ≠ .afterPrefix := by simp [hblock]
  cases hnmi : s.nmiPending
  case true => exact ⟨s.nmiTaken, interruptCheck_of_nmi false hprefix hmem hnmi, s.nmiTaken_sp, s.nmiTaken_mem, s.nmiTaken_iff2⟩
  case false =>
    obtain ⟨hiff1, hint⟩ : s.iff1 = true ∧ s.intPending = true := by simpa [hnmi] using hpending
    have hiff2 : s.iff2 = true := by simpa [State.iffLegal, hiff1] using hiff
    have hcheck := (interruptCheck_of_int false hprefix hnmi (State.intAccepted_of_unblocked hblock hiff1 hint)).trans (acceptInt_ok hmem)
    obtain ⟨a, price, -, htaken⟩ := State.intAccept_of_imLegal him
    rw [htaken] at hcheck
    exact ⟨s.intTaken a price, hcheck, s.intTaken_sp a price, s.intTaken_mem a price,
      (s.intTaken_iff2 a price).trans (hiff2.trans hiff1.symm)⟩

/-- Settles O58: the acceptance pushes PC and keeps IFF1 in IFF2, and the return is a pop of that push. -/
theorem interruptRoundTrip : Obligations.InterruptRoundTrip := by
  intro s hmem hiff him hblock hpending
  obtain ⟨t, hcheck, hsp, hbytes, hiff2⟩ := interruptCheck_saves hmem hiff him hblock hpending
  refine ⟨t, hcheck, fun t' hsp' hmem' hiff2' hmf i hi => ?_⟩
  obtain ⟨u, hexec, hpc, husp, huiff⟩ := exec_return_of_pushed hi (hsp'.trans hsp) (hmem'.trans hbytes) hmf
  exact ⟨u, hexec, hpc, husp, huiff.trans (hiff2'.trans hiff2)⟩

end Sys2Proof.Machine
end

section
/-! PROOFS. What every step pays, and what it does to the pending bits (40_step_and_microops.md R132, R136; 60_exceptions.md R438 to
R447). -/

namespace Sys2Proof.Machine

open Claims

/-! ### What the check can do -/

/-- The check leaves the state after a lone DD or FD, accepts an NMI or a maskable interrupt, or pays for a halted step. -/
theorem State.checked_cases (s : State) (wasHalted : Bool) :
    (s.intBlock = .afterPrefix ∧ s.checked wasHalted = s) ∨ s.checked wasHalted = s.nmiTaken ∨ s.checked wasHalted = s.intAccept ∨
      s.checked wasHalted = s.spend (if wasHalted then haltCost s.params.costs else 0) := by
  unfold State.checked
  split
  case isTrue hblock => exact .inl ⟨hblock, rfl⟩
  split
  · exact .inr (.inl rfl)
  split
  · exact .inr (.inr (.inl rfl))
  · cases wasHalted
    · exact .inr (.inr (.inr (by simp [State.spend])))
    · exact .inr (.inr (.inr rfl))

/-! ### Pending bits -/

/-- The check keeps `int_pending`, or clears it with an acceptance. -/
theorem State.checked_intPending (s : State) (wasHalted : Bool) :
    (s.checked wasHalted).intPending = s.intPending ∨ ((s.checked wasHalted).intPending = false ∧
      (s.checked wasHalted).iff1 = false ∧ (s.checked wasHalted).halted = false) := by
  obtain ⟨-, h⟩ | h | h | h := s.checked_cases wasHalted <;> rw [h]
  · exact .inl rfl
  · exact .inl s.nmiTaken_intPending
  · obtain ⟨hpending, hiff1, hrun, -⟩ := s.intAccept_clears
    exact .inr ⟨hpending, hiff1, hrun⟩
  · exact .inl rfl

/-- The check keeps `nmi_pending`, or clears it with an acceptance of the NMI. -/
theorem State.checked_nmiPending (s : State) (wasHalted : Bool) :
    (s.checked wasHalted).nmiPending = s.nmiPending ∨ ((s.checked wasHalted).nmiPending = false ∧
      (s.checked wasHalted).iff1 = false ∧ (s.checked wasHalted).halted = false ∧ (s.checked wasHalted).pc = 0x0066) := by
  obtain ⟨-, h⟩ | h | h | h := s.checked_cases wasHalted <;> rw [h]
  · exact .inl rfl
  · exact .inr ⟨s.nmiTaken_nmiPending, s.nmiTaken_iff1, s.nmiTaken_halted, s.nmiTaken_pc⟩
  · obtain ⟨-, -, -, hnmi⟩ := s.intAccept_clears
    exact .inl hnmi
  · exact .inl rfl

/-- A step ends in the check, from a state with the pending bits the step began with. -/
theorem step_checks {s t : State} (h : step s = .next t) :
    ∃ (u : State) (wasHalted : Bool), t = u.checked wasHalted ∧ u.intPending = s.intPending ∧ u.nmiPending = s.nmiPending := by
  obtain ⟨-, n, rfl⟩ | ⟨-, m, n, u, hu, rfl⟩ := step_next h
  · exact ⟨_, _, rfl, rfl, rfl⟩
  · exact ⟨_, _, rfl, exec_keeps hu State.intPending (fun _ s hu => hu.intPending_eq s) fun _ _ => rfl,
      exec_keeps hu State.nmiPending (fun _ s hu => hu.nmiPending_eq s) fun _ _ => rfl⟩

/-- A bit that is kept, or cleared with `P`, is never raised and cleared only with `P`. -/
theorem pendingBit_lifetime {b b' : Bool} {P : Prop} (h : b' = b ∨ (b' = false ∧ P)) :
    (b' = true → b = true) ∧ (b = true → b' = false → P) := by
  obtain rfl | ⟨rfl, hp⟩ := h
  · exact ⟨id, fun h h' => absurd h (ne_true_of_eq_false h')⟩
  · exact ⟨nofun, fun _ _ => hp⟩

/-- Settles O17: the instruction keeps both bits, and the check keeps each or clears it with an acceptance. -/
theorem pendingBitLifetime : Obligations.PendingBitLifetime := by
  intro s t h
  obtain ⟨u, wasHalted, rfl, hint, hnmi⟩ := step_checks h
  obtain ⟨hintKept, hintTaken⟩ := pendingBit_lifetime (hint ▸ u.checked_intPending wasHalted)
  obtain ⟨hnmiKept, hnmiTaken⟩ := pendingBit_lifetime (hnmi ▸ u.checked_nmiPending wasHalted)
  exact ⟨hintKept, hnmiKept, hintTaken, hnmiTaken⟩

/-! ### Costs -/

/-- The default costs lie between 4 and 23 (70_reset_and_hazards.md R481). -/
theorem cycleTable_between (i : Instr) :
    (4 ≤ (cycleTable i).1 ∧ (cycleTable i).1 ≤ 23) ∧ 4 ≤ (cycleTable i).2 ∧ (cycleTable i).2 ≤ 23 := by
  cases i <;> exact of_decide_eq_true rfl

theorem cost_default_between (i : Instr) (taken : Bool) : 4 ≤ cost [] i taken ∧ cost [] i taken ≤ 23 := by
  obtain ⟨htaken, hnot⟩ := cycleTable_between i
  cases taken
  · exact hnot
  · exact htaken

theorem Update.cycles_eq {i : Instr} {u : State → State} (hu : Update i u) (s : State) : (u s).cycles = s.cycles := by
  cases hu <;> simp [State.swapAf, State.swapBank]

theorem Update.imLegal {i : Instr} {u : State → State} (hu : Update i u) {s : State} (h : s.imLegal = true) :
    (u s).imLegal = true := by
  cases hu
  case setIm m hm hw => exact bne_iff_ne.mpr hm
  all_goals simpa [State.imLegal, State.swapAf, State.swapBank] using h

theorem Reaches.imLegal {i : Instr} {s t : State} (h : Reaches i s t) (hs : s.imLegal = true) : t.imLegal = true := by
  induction h with
  | refl => exact hs
  | tail _ hstep ih =>
    obtain ⟨u, hu, rfl⟩ := hstep
    exact hu.imLegal ih

/-- An instruction adds its own cost, and keeps IM legal and the parameters (R136). -/
theorem exec_pays {i : Instr} {s t : State} (h : exec i s = .next t) (him : s.imLegal = true) :
    (∃ taken, t.cycles = s.cycles + BitVec.ofNat 64 (cost s.params.costs i taken)) ∧ t.imLegal = true ∧ t.params = s.params := by
  obtain ⟨u, taken, hu, rfl⟩ := exec_reaches h
  have hcycles : u.cycles = s.cycles := hu.keeps State.cycles fun _ s hu => hu.cycles_eq s
  have hparams : u.params = s.params := hu.keeps State.params fun _ s hu => hu.params_eq s
  exact ⟨⟨taken, by rw [State.spend_cycles, hcycles]⟩, hu.imLegal him, hparams⟩

/-- The check adds the cost of an acceptance, or that of a halted step in one that began halted, or nothing. -/
theorem State.checked_pays {s : State} {wasHalted : Bool} (him : s.imLegal = true)
    (hblock : s.intBlock = .afterPrefix → wasHalted = false) :
    ∃ c ∈ (if wasHalted then haltCost s.params.costs else 0) ::
        [nmiCost s.params.costs, mode1Cost s.params.costs, mode2Cost s.params.costs],
      (s.checked wasHalted).cycles = s.cycles + BitVec.ofNat 64 c := by
  obtain ⟨hprefix, h⟩ | h | h | h := s.checked_cases wasHalted <;> rw [h]
  · exact ⟨0, by simp [hblock hprefix], by simp⟩
  · exact ⟨nmiCost s.params.costs, by simp, s.nmiTaken_cycles⟩
  · obtain ⟨a, price, hprice, htaken⟩ := State.intAccept_of_imLegal him
    exact ⟨price, List.mem_cons_of_mem _ (List.mem_cons_of_mem _ hprice), by rw [htaken, State.intTaken_cycles]⟩
  · exact ⟨_, List.mem_cons_self, rfl⟩

/-- Settles O14: an instruction pays its own cost and the check the rest; the default costs are read off the table. -/
theorem stepCost : Obligations.StepCost := by
  refine ⟨cost_default_between, rfl, rfl, rfl, rfl, fun s t him h => ?_⟩
  obtain ⟨hhalted, n, rfl⟩ | ⟨hrun, m, n, u, hu, rfl⟩ := step_next h
  · have hcheck := State.checked_pays (s := s.unblocked.drawn n) (wasHalted := true) him nofun
    exact ⟨fun hr => absurd hhalted (ne_true_of_eq_false hr), fun _ => hcheck⟩
  · refine ⟨fun _ => ?_, fun hh => absurd hh (ne_true_of_eq_false hrun)⟩
    obtain ⟨⟨taken, hcycles⟩, hulegal, hparams⟩ := exec_pays hu him
    obtain ⟨c, hc, hcheck⟩ := State.checked_pays (s := u.drawn n) (wasHalted := false) hulegal fun _ => rfl
    refine ⟨taken, c, ?_, ?_⟩
    · rwa [State.drawn_params, hparams] at hc
    · rw [hcheck, State.drawn_cycles, hcycles, BitVec.ofNat_add, ← BitVec.add_assoc]
      rfl

end Sys2Proof.Machine
end
